-- ==== Sys2Proof/Word.lean ====
section
/-!
DEFINITION. The words of the machine: names for the widths the spec uses (10_state.md R20, R25, R30;
30_encoding.md R11). Nothing here computes; bit-field helpers stand in Decode.lean and Machine/.
-/

namespace Sys2Proof

/-- XLEN = 64 bits: an integer register, the pc, an address, a trap value (R8, R20, R25). -/
abbrev Word := BitVec 64

/-- One byte of memory (R51). -/
abbrev Byte := BitVec 8

/-- The actual 7-bit register number, x0 to x127 or f0 to f127 (R20, R204). -/
abbrev Reg := BitVec 7

/-- The widest bit pattern that a memory access or a floating-point register carries: 128 bits, the
quad format of R283 and R286. -/
abbrev Quad := BitVec 128

end Sys2Proof
end

