-- ==== Sys2Proof/Config.lean ====
section
/-!
DEFINITION. The configuration: the parameters that 00_scope.md R6 to R8 leave to the implementation, as
one record of plain data, the sample values of 95_test_vectors.md part 0, and the open function `fp_op`
of 44_p48_float.md R284. `MAIN_SPEC` = true is not representable (R6 refuses it), and XLEN = 64,
NREGS = 128, `HAS_C` = false and IALIGN = 16 are fixed (R8).
-/

namespace Sys2Proof

/-- A run of backed byte addresses: base, base + 1, …, base + size - 1 (R57). -/
structure Region where
  base : Nat
  size : Nat
deriving DecidableEq, Repr

/-- FLEN, the width of a floating-point register, meaningful only when `HAS_F` (R8, R39). The widths
are those of the formats S, D and Q of R283. PRESUMED (log 12): FLEN is one of them. -/
inductive Flen where
  | single
  | double
  | quad
deriving DecidableEq, Repr

/-- FLEN in bits. -/
def Flen.bits : Flen → Nat
  | .single => 32
  | .double => 64
  | .quad => 128

/-- The parameters of R6 and R8. The spec calls them configuration; a State carries one such record
because `step` takes nothing else, and no step changes it (log 2). -/
structure Platform where
  /-- `VLTYP_SUPPORTED` (R6 option 4). -/
  vltypSupported : Bool
  /-- `SVLEN_SUPPORTED` (R6 option 5). -/
  svlenSupported : Bool
  /-- `HAS_F` (R8); false on the specified hardware. -/
  hasF : Bool
  /-- `FLEN` (R8), only meaningful when `hasF`. -/
  flen : Flen
  /-- `CSR_SVPSTATE`, the address of the one CSR (R35). -/
  csrSvpstate : BitVec 12
  /-- `RESET_PC` (R28, R380). -/
  resetPc : Word
  /-- `MemMap`, the backed byte addresses (R57). -/
  memMap : List Region
deriving DecidableEq, Repr

/-- The sample platform of 95_test_vectors.md part 0: `RESET_PC` = 0x1000, `MemMap` = [0x1000, 0x3000),
`CSR_SVPSTATE` = 0x800, both options supported, `HAS_F` = false. DESIGN CHOICE (log 2). FLEN is not used
while `HAS_F` is false; DESIGN CHOICE 64. -/
def Platform.sample : Platform where
  vltypSupported := true
  svlenSupported := true
  hasF := false
  flen := .double
  csrSvpstate := 0x800#12
  resetPc := 0x1000#64
  memMap := [⟨0x1000, 0x2000⟩]

/-- `fp_op` (R284): from the base instruction word, the dynamic rounding mode and the source elements
as bit patterns, to the result's bit pattern and the five exception flags. No source defines it, so it
is opaque: nothing can be proved of a floating-point result (log 13). -/
opaque Config.fpOp : BitVec 32 → BitVec 3 → List Quad → Quad × BitVec 5

end Sys2Proof
end

