-- ==== Sys2Proof/Syntax.lean ====
section
/-!
DEFINITION. The instructions: one constructor of `Instr` per row of spec/opcode_table.json, with the
operand fields of the encoding formats (30_encoding.md R72, R76, R82; 40_base_scalar.md R131). Field codes
that have names in the spec are constructors (itype R102, svlen R94, pred R96, tpred R97, VLtyp R106).
-/

namespace Sys2Proof

/-- Element width of integer elements, by the itype code (R102): 00 is XLEN = 64 bits. -/
inductive Ew where
  | e64
  | e8
  | e16
  | e32
deriving DecidableEq, Repr

/-- Element width in bits (R102, R203). -/
def Ew.bits : Ew → Nat
  | .e64 => 64
  | .e8 => 8
  | .e16 => 16
  | .e32 => 32

/-- The svlen field (R94): 00 is SUBVL, which is 1 in a standalone implementation (R95). -/
inductive Svlen where
  | subvl
  | two
  | three
  | four
deriving DecidableEq, Repr

/-- Sub-vector length svl (R201). -/
def Svlen.length : Svlen → Nat
  | .subvl => 1
  | .two => 2
  | .three => 3
  | .four => 4

/-- The pred field (R96) without its reserved value 001. -/
inductive Pred where
  | none
  | notX9
  | x9
  | notX10
  | x10
  | notX11
  | x11
deriving DecidableEq, Repr

/-- The tpred field (R97). `tbd` is the pattern 100, "RESERVED" and "unpredicated (TBD)" in the source:
it executes as unpredicated (90_conflicts.md C11). -/
inductive TPred where
  | none
  | x9Off
  | offX10
  | x9X10
  | tbd
  | notX9Off
  | offNotX10
  | notX9NotX10
deriving DecidableEq, Repr

/-- The VLtyp field (R106, R302). `f` is the 5-bit field F, an immediate offset by one or a register
number; `dest` is VLdest. -/
inductive VLtyp where
  /-- all zeros: the default row -/
  | default
  /-- T = 0, vlt = 0: VL from the immediate F + 1 (R304) -/
  | vlImm (dest f : BitVec 5)
  /-- T = 0, vlt = 1: VL from register x[F] (R305) -/
  | vlReg (dest f : BitVec 5)
  /-- T = 1, bit 0 = 0: MAXVL and VL from the immediate (R307) -/
  | mvlVl (dest f : BitVec 5)
  /-- T = 1, bit 0 = 1: MAXVL from the immediate (R308) -/
  | mvl (dest f : BitVec 5)
deriving DecidableEq, Repr

/-- Operand fields of P48-R and P64-R; `n` is the width of a register-number field, 6 or 7 (R85, R260). -/
structure ROps (n : Nat) where
  rd : BitVec n
  rs1 : BitVec n
  rs2 : BitVec n
  vs1 : Bool
  vs2 : Bool
  ew : Ew
  pred : Pred
  svlen : Svlen
deriving DecidableEq, Repr

/-- Operand fields of P48-I, P48-LD and their P64 forms, which share one layout (R76, R240, R262). -/
structure IOps (n : Nat) where
  rd : BitVec n
  rs1 : BitVec n
  vd : Bool
  vs1 : Bool
  ew : Ew
  tpred : TPred
  svlen : Svlen
deriving DecidableEq, Repr

/-- Operand fields of P48-ST and P64-ST (R240). -/
structure SOps (n : Nat) where
  rs1 : BitVec n
  rs2 : BitVec n
  vs1 : Bool
  vs2 : Bool
  ew : Ew
  tpred : TPred
  svlen : Svlen
deriving DecidableEq, Repr

/-- Operand fields of P48-U and P64-U (R265). -/
structure UOps (n : Nat) where
  rd : BitVec n
  vd : Bool
  ew : Ew
  pred : Pred
  svlen : Svlen
deriving DecidableEq, Repr

/-- Operand fields of P48-FR and P64-FR, with the base fields rm, fmt and funct5 (R282). -/
structure FROps (n : Nat) where
  rd : BitVec n
  rs1 : BitVec n
  rs2 : BitVec n
  vs1 : Bool
  vs2 : Bool
  pred : Pred
  svlen : Svlen
  rm : BitVec 3
  fmt : BitVec 2
  funct5 : BitVec 5
deriving DecidableEq, Repr

/-- Operand fields of P48-FR4 and P64-FR4, with the base fields rm and fmt (R288). -/
structure FR4Ops (n : Nat) where
  rd : BitVec n
  rs1 : BitVec n
  rs2 : BitVec n
  rs3 : BitVec n
  vs2 : Bool
  vs3 : Bool
  pred : Pred
  svlen : Svlen
  rm : BitVec 3
  fmt : BitVec 2
deriving DecidableEq, Repr

/-- The instruction set: 58 unprefixed base instructions (R130), 41 P48 and 41 P64 forms (R240, R260 to
R266, R300) and the 14 floating-point class rows (R293). Immediates are the encoded fields; jump and branch
offsets carry their fixed zero bit 0. -/
inductive Instr where
  /-- `lui` (R135) -/
  | lui (rd : BitVec 5) (imm : BitVec 20)
  /-- `auipc` (R136) -/
  | auipc (rd : BitVec 5) (imm : BitVec 20)
  /-- `addi` (R137) -/
  | addi (rd rs1 : BitVec 5) (imm : BitVec 12)
  /-- `slti` (R138) -/
  | slti (rd rs1 : BitVec 5) (imm : BitVec 12)
  /-- `sltiu` (R139) -/
  | sltiu (rd rs1 : BitVec 5) (imm : BitVec 12)
  /-- `xori` (R140) -/
  | xori (rd rs1 : BitVec 5) (imm : BitVec 12)
  /-- `ori` (R141) -/
  | ori (rd rs1 : BitVec 5) (imm : BitVec 12)
  /-- `andi` (R142) -/
  | andi (rd rs1 : BitVec 5) (imm : BitVec 12)
  /-- `slli` (R143) -/
  | slli (rd rs1 : BitVec 5) (shamt : BitVec 6)
  /-- `srli` (R144) -/
  | srli (rd rs1 : BitVec 5) (shamt : BitVec 6)
  /-- `srai` (R145) -/
  | srai (rd rs1 : BitVec 5) (shamt : BitVec 6)
  /-- `addiw` (R146) -/
  | addiw (rd rs1 : BitVec 5) (imm : BitVec 12)
  /-- `slliw` (R147) -/
  | slliw (rd rs1 : BitVec 5) (shamt : BitVec 5)
  /-- `srliw` (R148) -/
  | srliw (rd rs1 : BitVec 5) (shamt : BitVec 5)
  /-- `sraiw` (R149) -/
  | sraiw (rd rs1 : BitVec 5) (shamt : BitVec 5)
  /-- `add` (R150) -/
  | add (rd rs1 rs2 : BitVec 5)
  /-- `sub` (R151) -/
  | sub (rd rs1 rs2 : BitVec 5)
  /-- `sll` (R152) -/
  | sll (rd rs1 rs2 : BitVec 5)
  /-- `slt` (R153) -/
  | slt (rd rs1 rs2 : BitVec 5)
  /-- `sltu` (R154) -/
  | sltu (rd rs1 rs2 : BitVec 5)
  /-- `xor` (R155) -/
  | xor (rd rs1 rs2 : BitVec 5)
  /-- `srl` (R156) -/
  | srl (rd rs1 rs2 : BitVec 5)
  /-- `sra` (R157) -/
  | sra (rd rs1 rs2 : BitVec 5)
  /-- `or` (R158) -/
  | or (rd rs1 rs2 : BitVec 5)
  /-- `and` (R159) -/
  | and (rd rs1 rs2 : BitVec 5)
  /-- `addw` (R160) -/
  | addw (rd rs1 rs2 : BitVec 5)
  /-- `subw` (R161) -/
  | subw (rd rs1 rs2 : BitVec 5)
  /-- `sllw` (R162) -/
  | sllw (rd rs1 rs2 : BitVec 5)
  /-- `srlw` (R163) -/
  | srlw (rd rs1 rs2 : BitVec 5)
  /-- `sraw` (R164) -/
  | sraw (rd rs1 rs2 : BitVec 5)
  /-- `lb` (R165) -/
  | lb (rd rs1 : BitVec 5) (imm : BitVec 12)
  /-- `lh` (R166) -/
  | lh (rd rs1 : BitVec 5) (imm : BitVec 12)
  /-- `lw` (R167) -/
  | lw (rd rs1 : BitVec 5) (imm : BitVec 12)
  /-- `ld` (R168) -/
  | ld (rd rs1 : BitVec 5) (imm : BitVec 12)
  /-- `lbu` (R169) -/
  | lbu (rd rs1 : BitVec 5) (imm : BitVec 12)
  /-- `lhu` (R170) -/
  | lhu (rd rs1 : BitVec 5) (imm : BitVec 12)
  /-- `lwu` (R171) -/
  | lwu (rd rs1 : BitVec 5) (imm : BitVec 12)
  /-- `sb` (R172) -/
  | sb (rs1 rs2 : BitVec 5) (imm : BitVec 12)
  /-- `sh` (R173) -/
  | sh (rs1 rs2 : BitVec 5) (imm : BitVec 12)
  /-- `sw` (R174) -/
  | sw (rs1 rs2 : BitVec 5) (imm : BitVec 12)
  /-- `sd` (R175) -/
  | sd (rs1 rs2 : BitVec 5) (imm : BitVec 12)
  /-- `jal` (R176) -/
  | jal (rd : BitVec 5) (offset : BitVec 21)
  /-- `jalr` (R177) -/
  | jalr (rd rs1 : BitVec 5) (imm : BitVec 12)
  /-- `beq` (R178) -/
  | beq (rs1 rs2 : BitVec 5) (offset : BitVec 13)
  /-- `bne` (R179) -/
  | bne (rs1 rs2 : BitVec 5) (offset : BitVec 13)
  /-- `blt` (R180) -/
  | blt (rs1 rs2 : BitVec 5) (offset : BitVec 13)
  /-- `bge` (R181) -/
  | bge (rs1 rs2 : BitVec 5) (offset : BitVec 13)
  /-- `bltu` (R182) -/
  | bltu (rs1 rs2 : BitVec 5) (offset : BitVec 13)
  /-- `bgeu` (R183) -/
  | bgeu (rs1 rs2 : BitVec 5) (offset : BitVec 13)
  /-- `fence` with its ignored fields (R184) -/
  | fence (rd rs1 : BitVec 5) (imm : BitVec 12)
  /-- `ecall` (R185) -/
  | ecall
  /-- `ebreak` (R186) -/
  | ebreak
  /-- `csrrw` (R187) -/
  | csrrw (rd rs1 : BitVec 5) (csr : BitVec 12)
  /-- `csrrs` (R188) -/
  | csrrs (rd rs1 : BitVec 5) (csr : BitVec 12)
  /-- `csrrc` (R189) -/
  | csrrc (rd rs1 : BitVec 5) (csr : BitVec 12)
  /-- `csrrwi` (R190) -/
  | csrrwi (rd zimm : BitVec 5) (csr : BitVec 12)
  /-- `csrrsi` (R191) -/
  | csrrsi (rd zimm : BitVec 5) (csr : BitVec 12)
  /-- `csrrci` (R192) -/
  | csrrci (rd zimm : BitVec 5) (csr : BitVec 12)
  /-- `p48.lui` (R400) -/
  | p48Lui (o : UOps 6) (imm : BitVec 20)
  /-- `p48.auipc` (R401) -/
  | p48Auipc (o : UOps 6) (imm : BitVec 20)
  /-- `p48.addi` (R402) -/
  | p48Addi (o : IOps 6) (imm : BitVec 12)
  /-- `p48.slti` (R403) -/
  | p48Slti (o : IOps 6) (imm : BitVec 12)
  /-- `p48.sltiu` (R404) -/
  | p48Sltiu (o : IOps 6) (imm : BitVec 12)
  /-- `p48.xori` (R405) -/
  | p48Xori (o : IOps 6) (imm : BitVec 12)
  /-- `p48.ori` (R406) -/
  | p48Ori (o : IOps 6) (imm : BitVec 12)
  /-- `p48.andi` (R407) -/
  | p48Andi (o : IOps 6) (imm : BitVec 12)
  /-- `p48.slli` (R408) -/
  | p48Slli (o : IOps 6) (shamt : BitVec 6)
  /-- `p48.srli` (R409) -/
  | p48Srli (o : IOps 6) (shamt : BitVec 6)
  /-- `p48.srai` (R410) -/
  | p48Srai (o : IOps 6) (shamt : BitVec 6)
  /-- `p48.addiw` (R411) -/
  | p48Addiw (o : IOps 6) (imm : BitVec 12)
  /-- `p48.slliw` (R412) -/
  | p48Slliw (o : IOps 6) (shamt : BitVec 5)
  /-- `p48.srliw` (R413) -/
  | p48Srliw (o : IOps 6) (shamt : BitVec 5)
  /-- `p48.sraiw` (R414) -/
  | p48Sraiw (o : IOps 6) (shamt : BitVec 5)
  /-- `p48.add` (R415) -/
  | p48Add (o : ROps 6)
  /-- `p48.sub` (R416) -/
  | p48Sub (o : ROps 6)
  /-- `p48.sll` (R417) -/
  | p48Sll (o : ROps 6)
  /-- `p48.slt` (R418) -/
  | p48Slt (o : ROps 6)
  /-- `p48.sltu` (R419) -/
  | p48Sltu (o : ROps 6)
  /-- `p48.xor` (R420) -/
  | p48Xor (o : ROps 6)
  /-- `p48.srl` (R421) -/
  | p48Srl (o : ROps 6)
  /-- `p48.sra` (R422) -/
  | p48Sra (o : ROps 6)
  /-- `p48.or` (R423) -/
  | p48Or (o : ROps 6)
  /-- `p48.and` (R424) -/
  | p48And (o : ROps 6)
  /-- `p48.addw` (R425) -/
  | p48Addw (o : ROps 6)
  /-- `p48.subw` (R426) -/
  | p48Subw (o : ROps 6)
  /-- `p48.sllw` (R427) -/
  | p48Sllw (o : ROps 6)
  /-- `p48.srlw` (R428) -/
  | p48Srlw (o : ROps 6)
  /-- `p48.sraw` (R429) -/
  | p48Sraw (o : ROps 6)
  /-- `p48.lb` (R247) -/
  | p48Lb (o : IOps 6) (imm : BitVec 12)
  /-- `p48.lh` (R248) -/
  | p48Lh (o : IOps 6) (imm : BitVec 12)
  /-- `p48.lw` (R249) -/
  | p48Lw (o : IOps 6) (imm : BitVec 12)
  /-- `p48.ld` (R250) -/
  | p48Ld (o : IOps 6) (imm : BitVec 12)
  /-- `p48.lbu` (R251) -/
  | p48Lbu (o : IOps 6) (imm : BitVec 12)
  /-- `p48.lhu` (R252) -/
  | p48Lhu (o : IOps 6) (imm : BitVec 12)
  /-- `p48.lwu` (R253) -/
  | p48Lwu (o : IOps 6) (imm : BitVec 12)
  /-- `p48.sb` (R254) -/
  | p48Sb (o : SOps 6) (imm : BitVec 12)
  /-- `p48.sh` (R255) -/
  | p48Sh (o : SOps 6) (imm : BitVec 12)
  /-- `p48.sw` (R256) -/
  | p48Sw (o : SOps 6) (imm : BitVec 12)
  /-- `p48.sd` (R257) -/
  | p48Sd (o : SOps 6) (imm : BitVec 12)
  /-- `p64.lui` (R400) -/
  | p64Lui (o : UOps 7) (imm : BitVec 20) (vltyp : VLtyp)
  /-- `p64.auipc` (R401) -/
  | p64Auipc (o : UOps 7) (imm : BitVec 20) (vltyp : VLtyp)
  /-- `p64.addi` (R402) -/
  | p64Addi (o : IOps 7) (imm : BitVec 12) (vltyp : VLtyp)
  /-- `p64.slti` (R403) -/
  | p64Slti (o : IOps 7) (imm : BitVec 12) (vltyp : VLtyp)
  /-- `p64.sltiu` (R404) -/
  | p64Sltiu (o : IOps 7) (imm : BitVec 12) (vltyp : VLtyp)
  /-- `p64.xori` (R405) -/
  | p64Xori (o : IOps 7) (imm : BitVec 12) (vltyp : VLtyp)
  /-- `p64.ori` (R406) -/
  | p64Ori (o : IOps 7) (imm : BitVec 12) (vltyp : VLtyp)
  /-- `p64.andi` (R407) -/
  | p64Andi (o : IOps 7) (imm : BitVec 12) (vltyp : VLtyp)
  /-- `p64.slli` (R408) -/
  | p64Slli (o : IOps 7) (shamt : BitVec 6) (vltyp : VLtyp)
  /-- `p64.srli` (R409) -/
  | p64Srli (o : IOps 7) (shamt : BitVec 6) (vltyp : VLtyp)
  /-- `p64.srai` (R410) -/
  | p64Srai (o : IOps 7) (shamt : BitVec 6) (vltyp : VLtyp)
  /-- `p64.addiw` (R411) -/
  | p64Addiw (o : IOps 7) (imm : BitVec 12) (vltyp : VLtyp)
  /-- `p64.slliw` (R412) -/
  | p64Slliw (o : IOps 7) (shamt : BitVec 5) (vltyp : VLtyp)
  /-- `p64.srliw` (R413) -/
  | p64Srliw (o : IOps 7) (shamt : BitVec 5) (vltyp : VLtyp)
  /-- `p64.sraiw` (R414) -/
  | p64Sraiw (o : IOps 7) (shamt : BitVec 5) (vltyp : VLtyp)
  /-- `p64.add` (R415) -/
  | p64Add (o : ROps 7) (vd : Bool) (vltyp : VLtyp)
  /-- `p64.sub` (R416) -/
  | p64Sub (o : ROps 7) (vd : Bool) (vltyp : VLtyp)
  /-- `p64.sll` (R417) -/
  | p64Sll (o : ROps 7) (vd : Bool) (vltyp : VLtyp)
  /-- `p64.slt` (R418) -/
  | p64Slt (o : ROps 7) (vd : Bool) (vltyp : VLtyp)
  /-- `p64.sltu` (R419) -/
  | p64Sltu (o : ROps 7) (vd : Bool) (vltyp : VLtyp)
  /-- `p64.xor` (R420) -/
  | p64Xor (o : ROps 7) (vd : Bool) (vltyp : VLtyp)
  /-- `p64.srl` (R421) -/
  | p64Srl (o : ROps 7) (vd : Bool) (vltyp : VLtyp)
  /-- `p64.sra` (R422) -/
  | p64Sra (o : ROps 7) (vd : Bool) (vltyp : VLtyp)
  /-- `p64.or` (R423) -/
  | p64Or (o : ROps 7) (vd : Bool) (vltyp : VLtyp)
  /-- `p64.and` (R424) -/
  | p64And (o : ROps 7) (vd : Bool) (vltyp : VLtyp)
  /-- `p64.addw` (R425) -/
  | p64Addw (o : ROps 7) (vd : Bool) (vltyp : VLtyp)
  /-- `p64.subw` (R426) -/
  | p64Subw (o : ROps 7) (vd : Bool) (vltyp : VLtyp)
  /-- `p64.sllw` (R427) -/
  | p64Sllw (o : ROps 7) (vd : Bool) (vltyp : VLtyp)
  /-- `p64.srlw` (R428) -/
  | p64Srlw (o : ROps 7) (vd : Bool) (vltyp : VLtyp)
  /-- `p64.sraw` (R429) -/
  | p64Sraw (o : ROps 7) (vd : Bool) (vltyp : VLtyp)
  /-- `p64.lb` (R247) -/
  | p64Lb (o : IOps 7) (imm : BitVec 12) (vltyp : VLtyp)
  /-- `p64.lh` (R248) -/
  | p64Lh (o : IOps 7) (imm : BitVec 12) (vltyp : VLtyp)
  /-- `p64.lw` (R249) -/
  | p64Lw (o : IOps 7) (imm : BitVec 12) (vltyp : VLtyp)
  /-- `p64.ld` (R250) -/
  | p64Ld (o : IOps 7) (imm : BitVec 12) (vltyp : VLtyp)
  /-- `p64.lbu` (R251) -/
  | p64Lbu (o : IOps 7) (imm : BitVec 12) (vltyp : VLtyp)
  /-- `p64.lhu` (R252) -/
  | p64Lhu (o : IOps 7) (imm : BitVec 12) (vltyp : VLtyp)
  /-- `p64.lwu` (R253) -/
  | p64Lwu (o : IOps 7) (imm : BitVec 12) (vltyp : VLtyp)
  /-- `p64.sb` (R254) -/
  | p64Sb (o : SOps 7) (imm : BitVec 12) (vltyp : VLtyp)
  /-- `p64.sh` (R255) -/
  | p64Sh (o : SOps 7) (imm : BitVec 12) (vltyp : VLtyp)
  /-- `p64.sw` (R256) -/
  | p64Sw (o : SOps 7) (imm : BitVec 12) (vltyp : VLtyp)
  /-- `p64.sd` (R257) -/
  | p64Sd (o : SOps 7) (imm : BitVec 12) (vltyp : VLtyp)
  /-- the LOAD-FP class in P48-LD form (R286) -/
  | p48LoadFp (o : IOps 6) (width : BitVec 3) (imm : BitVec 12)
  /-- the STORE-FP class in P48-ST form (R286) -/
  | p48StoreFp (o : SOps 6) (width : BitVec 3) (imm : BitVec 12)
  /-- the OP-FP class in P48-FR form (R285) -/
  | p48OpFp (o : FROps 6)
  /-- the MADD class in P48-FR4 form (R289) -/
  | p48Madd (o : FR4Ops 6)
  /-- the MSUB class in P48-FR4 form (R289) -/
  | p48Msub (o : FR4Ops 6)
  /-- the NMSUB class in P48-FR4 form (R289) -/
  | p48Nmsub (o : FR4Ops 6)
  /-- the NMADD class in P48-FR4 form (R289) -/
  | p48Nmadd (o : FR4Ops 6)
  /-- the LOAD-FP class in P64-LD form (R286) -/
  | p64LoadFp (o : IOps 7) (width : BitVec 3) (imm : BitVec 12) (vltyp : VLtyp)
  /-- the STORE-FP class in P64-ST form (R286) -/
  | p64StoreFp (o : SOps 7) (width : BitVec 3) (imm : BitVec 12) (vltyp : VLtyp)
  /-- the OP-FP class in P64-FR form (R285) -/
  | p64OpFp (o : FROps 7) (vd : Bool) (vltyp : VLtyp)
  /-- the MADD class in P64-FR4 form (R289) -/
  | p64Madd (o : FR4Ops 7) (vltyp : VLtyp)
  /-- the MSUB class in P64-FR4 form (R289) -/
  | p64Msub (o : FR4Ops 7) (vltyp : VLtyp)
  /-- the NMSUB class in P64-FR4 form (R289) -/
  | p64Nmsub (o : FR4Ops 7) (vltyp : VLtyp)
  /-- the NMADD class in P64-FR4 form (R289) -/
  | p64Nmadd (o : FR4Ops 7) (vltyp : VLtyp)
deriving DecidableEq, Repr

end Sys2Proof
end

