-- ==== Sys2Proof/WellFormed.lean ====
section
/-!
DEFINITION. Well-formedness: which terms of `Instr` an encoding exists for. Field widths are in the types;
what is left is the reserved pred values (R96, R100), the VLtyp values that are not encodable or not
permitted (R304, R306) and the fixed zero bit of a jump or branch offset (R131).
-/

namespace Sys2Proof

/-- A pred value that vitp6 can hold: pred[2] is fixed at 0 there, so x10 and x11 are out of reach (R100). -/
def Pred.fitsVitp6 : Pred → Bool
  | .none => true
  | .notX9 => true
  | .x9 => true
  | .notX10 => false
  | .x10 => false
  | .notX11 => false
  | .x11 => false

/-- VL = 1 from the immediate without VLdest is VLtyp = 0x000, the default row (R304), and x0 is not
permitted as the source of VL (R306). -/
def VLtyp.wf : VLtyp → Bool
  | .default => true
  | .vlImm dest f => !(dest == 0#5 && f == 0#5)
  | .vlReg _ f => f != 0#5
  | .mvlVl _ _ => true
  | .mvl _ _ => true

/-- The static well-formedness of an instruction. -/
def Instr.wf : Instr → Bool
  | .lui _ _ => true
  | .auipc _ _ => true
  | .addi _ _ _ => true
  | .slti _ _ _ => true
  | .sltiu _ _ _ => true
  | .xori _ _ _ => true
  | .ori _ _ _ => true
  | .andi _ _ _ => true
  | .slli _ _ _ => true
  | .srli _ _ _ => true
  | .srai _ _ _ => true
  | .addiw _ _ _ => true
  | .slliw _ _ _ => true
  | .srliw _ _ _ => true
  | .sraiw _ _ _ => true
  | .add _ _ _ => true
  | .sub _ _ _ => true
  | .sll _ _ _ => true
  | .slt _ _ _ => true
  | .sltu _ _ _ => true
  | .xor _ _ _ => true
  | .srl _ _ _ => true
  | .sra _ _ _ => true
  | .or _ _ _ => true
  | .and _ _ _ => true
  | .addw _ _ _ => true
  | .subw _ _ _ => true
  | .sllw _ _ _ => true
  | .srlw _ _ _ => true
  | .sraw _ _ _ => true
  | .lb _ _ _ => true
  | .lh _ _ _ => true
  | .lw _ _ _ => true
  | .ld _ _ _ => true
  | .lbu _ _ _ => true
  | .lhu _ _ _ => true
  | .lwu _ _ _ => true
  | .sb _ _ _ => true
  | .sh _ _ _ => true
  | .sw _ _ _ => true
  | .sd _ _ _ => true
  | .jal _ offset => !offset.getLsbD 0
  | .jalr _ _ _ => true
  | .beq _ _ offset => !offset.getLsbD 0
  | .bne _ _ offset => !offset.getLsbD 0
  | .blt _ _ offset => !offset.getLsbD 0
  | .bge _ _ offset => !offset.getLsbD 0
  | .bltu _ _ offset => !offset.getLsbD 0
  | .bgeu _ _ offset => !offset.getLsbD 0
  | .fence _ _ _ => true
  | .ecall => true
  | .ebreak => true
  | .csrrw _ _ _ => true
  | .csrrs _ _ _ => true
  | .csrrc _ _ _ => true
  | .csrrwi _ _ _ => true
  | .csrrsi _ _ _ => true
  | .csrrci _ _ _ => true
  | .p48Lui o _ => o.pred.fitsVitp6
  | .p48Auipc o _ => o.pred.fitsVitp6
  | .p48Addi _ _ => true
  | .p48Slti _ _ => true
  | .p48Sltiu _ _ => true
  | .p48Xori _ _ => true
  | .p48Ori _ _ => true
  | .p48Andi _ _ => true
  | .p48Slli _ _ => true
  | .p48Srli _ _ => true
  | .p48Srai _ _ => true
  | .p48Addiw _ _ => true
  | .p48Slliw _ _ => true
  | .p48Srliw _ _ => true
  | .p48Sraiw _ _ => true
  | .p48Add o => o.pred.fitsVitp6
  | .p48Sub o => o.pred.fitsVitp6
  | .p48Sll o => o.pred.fitsVitp6
  | .p48Slt o => o.pred.fitsVitp6
  | .p48Sltu o => o.pred.fitsVitp6
  | .p48Xor o => o.pred.fitsVitp6
  | .p48Srl o => o.pred.fitsVitp6
  | .p48Sra o => o.pred.fitsVitp6
  | .p48Or o => o.pred.fitsVitp6
  | .p48And o => o.pred.fitsVitp6
  | .p48Addw o => o.pred.fitsVitp6
  | .p48Subw o => o.pred.fitsVitp6
  | .p48Sllw o => o.pred.fitsVitp6
  | .p48Srlw o => o.pred.fitsVitp6
  | .p48Sraw o => o.pred.fitsVitp6
  | .p48Lb _ _ => true
  | .p48Lh _ _ => true
  | .p48Lw _ _ => true
  | .p48Ld _ _ => true
  | .p48Lbu _ _ => true
  | .p48Lhu _ _ => true
  | .p48Lwu _ _ => true
  | .p48Sb _ _ => true
  | .p48Sh _ _ => true
  | .p48Sw _ _ => true
  | .p48Sd _ _ => true
  | .p64Lui o _ vltyp => o.pred.fitsVitp6 && vltyp.wf
  | .p64Auipc o _ vltyp => o.pred.fitsVitp6 && vltyp.wf
  | .p64Addi _ _ vltyp => vltyp.wf
  | .p64Slti _ _ vltyp => vltyp.wf
  | .p64Sltiu _ _ vltyp => vltyp.wf
  | .p64Xori _ _ vltyp => vltyp.wf
  | .p64Ori _ _ vltyp => vltyp.wf
  | .p64Andi _ _ vltyp => vltyp.wf
  | .p64Slli _ _ vltyp => vltyp.wf
  | .p64Srli _ _ vltyp => vltyp.wf
  | .p64Srai _ _ vltyp => vltyp.wf
  | .p64Addiw _ _ vltyp => vltyp.wf
  | .p64Slliw _ _ vltyp => vltyp.wf
  | .p64Srliw _ _ vltyp => vltyp.wf
  | .p64Sraiw _ _ vltyp => vltyp.wf
  | .p64Add o _ vltyp => o.pred.fitsVitp6 && vltyp.wf
  | .p64Sub o _ vltyp => o.pred.fitsVitp6 && vltyp.wf
  | .p64Sll o _ vltyp => o.pred.fitsVitp6 && vltyp.wf
  | .p64Slt o _ vltyp => o.pred.fitsVitp6 && vltyp.wf
  | .p64Sltu o _ vltyp => o.pred.fitsVitp6 && vltyp.wf
  | .p64Xor o _ vltyp => o.pred.fitsVitp6 && vltyp.wf
  | .p64Srl o _ vltyp => o.pred.fitsVitp6 && vltyp.wf
  | .p64Sra o _ vltyp => o.pred.fitsVitp6 && vltyp.wf
  | .p64Or o _ vltyp => o.pred.fitsVitp6 && vltyp.wf
  | .p64And o _ vltyp => o.pred.fitsVitp6 && vltyp.wf
  | .p64Addw o _ vltyp => o.pred.fitsVitp6 && vltyp.wf
  | .p64Subw o _ vltyp => o.pred.fitsVitp6 && vltyp.wf
  | .p64Sllw o _ vltyp => o.pred.fitsVitp6 && vltyp.wf
  | .p64Srlw o _ vltyp => o.pred.fitsVitp6 && vltyp.wf
  | .p64Sraw o _ vltyp => o.pred.fitsVitp6 && vltyp.wf
  | .p64Lb _ _ vltyp => vltyp.wf
  | .p64Lh _ _ vltyp => vltyp.wf
  | .p64Lw _ _ vltyp => vltyp.wf
  | .p64Ld _ _ vltyp => vltyp.wf
  | .p64Lbu _ _ vltyp => vltyp.wf
  | .p64Lhu _ _ vltyp => vltyp.wf
  | .p64Lwu _ _ vltyp => vltyp.wf
  | .p64Sb _ _ vltyp => vltyp.wf
  | .p64Sh _ _ vltyp => vltyp.wf
  | .p64Sw _ _ vltyp => vltyp.wf
  | .p64Sd _ _ vltyp => vltyp.wf
  | .p48LoadFp _ _ _ => true
  | .p48StoreFp _ _ _ => true
  | .p48OpFp _ => true
  | .p48Madd _ => true
  | .p48Msub _ => true
  | .p48Nmsub _ => true
  | .p48Nmadd _ => true
  | .p64LoadFp _ _ _ vltyp => vltyp.wf
  | .p64StoreFp _ _ _ vltyp => vltyp.wf
  | .p64OpFp _ _ vltyp => vltyp.wf
  | .p64Madd _ vltyp => vltyp.wf
  | .p64Msub _ vltyp => vltyp.wf
  | .p64Nmsub _ vltyp => vltyp.wf
  | .p64Nmadd _ vltyp => vltyp.wf

end Sys2Proof
end

