-- ==== Sys2Proof/Decode.lean ====
section
/-!
DEFINITION. The decoder and, after it, the encoder (30_encoding.md, 40_base_scalar.md R130 to R192). The
decoder is total on any bytes and rejects by name. A prefixed word is decoded as the spec composes it: the
embedded base word (R74, R81) is decoded by the base decoder and bits 17:7 and 63:48 are attached to it by
the format that R109 assigns to its opcode.
-/

namespace Sys2Proof

/-- Why bytes decode to no instruction of `Instr`. The hardware raises IllegalInstruction for every one of them
but `floatBase` on a platform with `HAS_F`, whose meaning is `Machine.execUnprefixedFloat` (log 16); `truncated`
is never met by a fetch, which reads whole instructions. -/
inductive DecodeError where
  /-- first parcel with bits 1:0 ≠ 11 (R71) -/
  | sixteenBit
  /-- first parcel with bits 6:0 = 1111111 (R71) -/
  | tooLong
  /-- fewer bytes than the length says -/
  | truncated
  /-- the low bits are not those of the length asked for -/
  | wrongMarker
  /-- a 32-bit or base word that is no base instruction (R133, R112) -/
  | notBase
  /-- a 32-bit word with a floating-point opcode (R193): no row of the opcode table, hence no `Instr` -/
  | floatBase
  /-- a base instruction that has no prefixed form (R108 to R110, R269) -/
  | reservedBase
  /-- a nonzero Rsvd bit or blank prefix cell (R79, R83) -/
  | reservedBit
  /-- pred = 001 (R96, R99, R100) -/
  | reservedPred
  /-- VLtyp in register mode naming x0 (R306) -/
  | vltypX0
deriving DecidableEq, Repr

/-! ### Field codes -/

/-- itype code (R102). -/
def Ew.code : Ew → BitVec 2
  | .e64 => 0b00#2
  | .e8 => 0b01#2
  | .e16 => 0b10#2
  | .e32 => 0b11#2

/-- itype decoded (R102). -/
def Ew.ofCode (c : BitVec 2) : Ew :=
  if c = 0b00#2 then .e64 else if c = 0b01#2 then .e8 else if c = 0b10#2 then .e16 else .e32

/-- svlen code (R94). -/
def Svlen.code : Svlen → BitVec 2
  | .subvl => 0b00#2
  | .two => 0b01#2
  | .three => 0b10#2
  | .four => 0b11#2

/-- svlen decoded (R94). -/
def Svlen.ofCode (c : BitVec 2) : Svlen :=
  if c = 0b00#2 then .subvl else if c = 0b01#2 then .two else if c = 0b10#2 then .three else .four

/-- pred code (R96). -/
def Pred.code : Pred → BitVec 3
  | .none => 0b000#3
  | .notX9 => 0b010#3
  | .x9 => 0b011#3
  | .notX10 => 0b100#3
  | .x10 => 0b101#3
  | .notX11 => 0b110#3
  | .x11 => 0b111#3

/-- pred decoded; 001 is reserved (R96). -/
def Pred.ofCode (c : BitVec 3) : Except DecodeError Pred :=
  if c = 0b000#3 then .ok .none
  else if c = 0b001#3 then .error .reservedPred
  else if c = 0b010#3 then .ok .notX9
  else if c = 0b011#3 then .ok .x9
  else if c = 0b100#3 then .ok .notX10
  else if c = 0b101#3 then .ok .x10
  else if c = 0b110#3 then .ok .notX11
  else .ok .x11

/-- tpred code (R97). -/
def TPred.code : TPred → BitVec 3
  | .none => 0b000#3
  | .x9Off => 0b001#3
  | .offX10 => 0b010#3
  | .x9X10 => 0b011#3
  | .tbd => 0b100#3
  | .notX9Off => 0b101#3
  | .offNotX10 => 0b110#3
  | .notX9NotX10 => 0b111#3

/-- tpred decoded (R97). -/
def TPred.ofCode (c : BitVec 3) : TPred :=
  if c = 0b000#3 then .none
  else if c = 0b001#3 then .x9Off
  else if c = 0b010#3 then .offX10
  else if c = 0b011#3 then .x9X10
  else if c = 0b100#3 then .tbd
  else if c = 0b101#3 then .notX9Off
  else if c = 0b110#3 then .offNotX10
  else .notX9NotX10

/-- VLtyp code (R106): bit 11 T, bits 10:6 VLdest, bits 5:1 F, bit 0. -/
def VLtyp.code : VLtyp → BitVec 12
  | .default => 0#12
  | .vlImm dest f => 0#1 ++ dest ++ f ++ 0#1
  | .vlReg dest f => 0#1 ++ dest ++ f ++ 1#1
  | .mvlVl dest f => 1#1 ++ dest ++ f ++ 0#1
  | .mvl dest f => 1#1 ++ dest ++ f ++ 1#1

/-- VLtyp decoded (R106); register mode naming x0 is not permitted (R306). -/
def VLtyp.ofCode (c : BitVec 12) : Except DecodeError VLtyp :=
  let dest := c.extractLsb' 6 5
  let f := c.extractLsb' 1 5
  if c = 0#12 then .ok .default
  else if c.getLsbD 11 then (if c.getLsbD 0 then .ok (.mvl dest f) else .ok (.mvlVl dest f))
  else if c.getLsbD 0 then (if f = 0#5 then .error .vltypX0 else .ok (.vlReg dest f))
  else .ok (.vlImm dest f)

/-! ### The base decoder -/

/-- The base instruction a 32-bit word stands for (R130 to R192); every other word is rejected (R133), the
floating-point opcodes under a name of their own (R193). -/
def decode32 (w : BitVec 32) : Except DecodeError Instr :=
  let rd := w.extractLsb' 7 5
  let f3 := w.extractLsb' 12 3
  let rs1 := w.extractLsb' 15 5
  let rs2 := w.extractLsb' 20 5
  let f7 := w.extractLsb' 25 7
  let f6 := w.extractLsb' 26 6
  let shamt6 := w.extractLsb' 20 6
  let shamt5 := w.extractLsb' 20 5
  let immI := w.extractLsb' 20 12
  let immU := w.extractLsb' 12 20
  let immS := w.extractLsb' 25 7 ++ w.extractLsb' 7 5
  let immB := w.extractLsb' 31 1 ++ w.extractLsb' 7 1 ++ w.extractLsb' 25 6 ++ w.extractLsb' 8 4 ++ 0#1
  let immJ := w.extractLsb' 31 1 ++ w.extractLsb' 12 8 ++ w.extractLsb' 20 1 ++ w.extractLsb' 21 10 ++ 0#1
  match (w.extractLsb' 0 7).toNat with
  | 0b0110111 => .ok (.lui rd immU)
  | 0b0010111 => .ok (.auipc rd immU)
  | 0b0010011 =>
    match f3.toNat with
    | 0b000 => .ok (.addi rd rs1 immI)
    | 0b010 => .ok (.slti rd rs1 immI)
    | 0b011 => .ok (.sltiu rd rs1 immI)
    | 0b100 => .ok (.xori rd rs1 immI)
    | 0b110 => .ok (.ori rd rs1 immI)
    | 0b111 => .ok (.andi rd rs1 immI)
    | 0b001 => if f6 = 0b000000#6 then .ok (.slli rd rs1 shamt6) else .error .notBase
    | 0b101 =>
      if f6 = 0b000000#6 then .ok (.srli rd rs1 shamt6)
      else if f6 = 0b010000#6 then .ok (.srai rd rs1 shamt6)
      else .error .notBase
    | _ => .error .notBase
  | 0b0011011 =>
    match f3.toNat with
    | 0b000 => .ok (.addiw rd rs1 immI)
    | 0b001 => if f7 = 0b0000000#7 then .ok (.slliw rd rs1 shamt5) else .error .notBase
    | 0b101 =>
      if f7 = 0b0000000#7 then .ok (.srliw rd rs1 shamt5)
      else if f7 = 0b0100000#7 then .ok (.sraiw rd rs1 shamt5)
      else .error .notBase
    | _ => .error .notBase
  | 0b0110011 =>
    match f3.toNat with
    | 0b000 =>
      if f7 = 0b0000000#7 then .ok (.add rd rs1 rs2)
      else if f7 = 0b0100000#7 then .ok (.sub rd rs1 rs2)
      else .error .notBase
    | 0b001 => if f7 = 0b0000000#7 then .ok (.sll rd rs1 rs2) else .error .notBase
    | 0b010 => if f7 = 0b0000000#7 then .ok (.slt rd rs1 rs2) else .error .notBase
    | 0b011 => if f7 = 0b0000000#7 then .ok (.sltu rd rs1 rs2) else .error .notBase
    | 0b100 => if f7 = 0b0000000#7 then .ok (.xor rd rs1 rs2) else .error .notBase
    | 0b101 =>
      if f7 = 0b0000000#7 then .ok (.srl rd rs1 rs2)
      else if f7 = 0b0100000#7 then .ok (.sra rd rs1 rs2)
      else .error .notBase
    | 0b110 => if f7 = 0b0000000#7 then .ok (.or rd rs1 rs2) else .error .notBase
    | 0b111 => if f7 = 0b0000000#7 then .ok (.and rd rs1 rs2) else .error .notBase
    | _ => .error .notBase
  | 0b0111011 =>
    match f3.toNat with
    | 0b000 =>
      if f7 = 0b0000000#7 then .ok (.addw rd rs1 rs2)
      else if f7 = 0b0100000#7 then .ok (.subw rd rs1 rs2)
      else .error .notBase
    | 0b001 => if f7 = 0b0000000#7 then .ok (.sllw rd rs1 rs2) else .error .notBase
    | 0b101 =>
      if f7 = 0b0000000#7 then .ok (.srlw rd rs1 rs2)
      else if f7 = 0b0100000#7 then .ok (.sraw rd rs1 rs2)
      else .error .notBase
    | _ => .error .notBase
  | 0b0000011 =>
    match f3.toNat with
    | 0b000 => .ok (.lb rd rs1 immI)
    | 0b001 => .ok (.lh rd rs1 immI)
    | 0b010 => .ok (.lw rd rs1 immI)
    | 0b011 => .ok (.ld rd rs1 immI)
    | 0b100 => .ok (.lbu rd rs1 immI)
    | 0b101 => .ok (.lhu rd rs1 immI)
    | 0b110 => .ok (.lwu rd rs1 immI)
    | _ => .error .notBase
  | 0b0100011 =>
    match f3.toNat with
    | 0b000 => .ok (.sb rs1 rs2 immS)
    | 0b001 => .ok (.sh rs1 rs2 immS)
    | 0b010 => .ok (.sw rs1 rs2 immS)
    | 0b011 => .ok (.sd rs1 rs2 immS)
    | _ => .error .notBase
  | 0b1101111 => .ok (.jal rd immJ)
  | 0b1100111 => if f3 = 0b000#3 then .ok (.jalr rd rs1 immI) else .error .notBase
  | 0b1100011 =>
    match f3.toNat with
    | 0b000 => .ok (.beq rs1 rs2 immB)
    | 0b001 => .ok (.bne rs1 rs2 immB)
    | 0b100 => .ok (.blt rs1 rs2 immB)
    | 0b101 => .ok (.bge rs1 rs2 immB)
    | 0b110 => .ok (.bltu rs1 rs2 immB)
    | 0b111 => .ok (.bgeu rs1 rs2 immB)
    | _ => .error .notBase
  | 0b0001111 => if f3 = 0b000#3 then .ok (.fence rd rs1 immI) else .error .notBase
  | 0b1110011 =>
    match f3.toNat with
    | 0b000 =>
      if w = 0x00000073#32 then .ok .ecall
      else if w = 0x00100073#32 then .ok .ebreak
      else .error .notBase
    | 0b001 => .ok (.csrrw rd rs1 immI)
    | 0b010 => .ok (.csrrs rd rs1 immI)
    | 0b011 => .ok (.csrrc rd rs1 immI)
    | 0b101 => .ok (.csrrwi rd rs1 immI)
    | 0b110 => .ok (.csrrsi rd rs1 immI)
    | 0b111 => .ok (.csrrci rd rs1 immI)
    | _ => .error .notBase
  | 0b0000111 => .error .floatBase
  | 0b0100111 => .error .floatBase
  | 0b1000011 => .error .floatBase
  | 0b1000111 => .error .floatBase
  | 0b1001011 => .error .floatBase
  | 0b1001111 => .error .floatBase
  | 0b1010011 => .error .floatBase
  | _ => .error .notBase

/-! ### Bits 17:7, one reader per format (R76), for 6-bit (P48) and 7-bit (P64) register numbers (R85)

`p` is bits 17:7, so bit b of the instruction is bit b - 7 of `p`. `h` is bits 63:60 (R82, R83). -/

/-- vitp6 of bits 12:7: itype, pred (pred[2] is 0) and svlen; XX01XX is reserved (R100). -/
def vitp6Fields (p : BitVec 11) : Except DecodeError (Ew × Pred × Svlen) :=
  match Pred.ofCode (0#1 ++ p.extractLsb' 2 2) with
  | .error e => .error e
  | .ok pr => .ok (Ew.ofCode (p.extractLsb' 4 2), pr, Svlen.ofCode (p.extractLsb' 0 2))

/-- tpred from vitp7, whose bit 6 stands apart: bit 15 (LD, I) or bit 17 (ST) (R101). -/
def tpredField (top : BitVec 1) (p : BitVec 11) : TPred := TPred.ofCode (top ++ p.extractLsb' 2 2)

/-- P48-R (R260). -/
def rOps48 (rd rs1 rs2 : BitVec 5) (p : BitVec 11) : Except DecodeError (ROps 6) :=
  match vitp6Fields p with
  | .error e => .error e
  | .ok (ew, pred, svlen) =>
    .ok ⟨p.extractLsb' 10 1 ++ rd, p.extractLsb' 9 1 ++ rs1, p.extractLsb' 8 1 ++ rs2,
      p.getLsbD 6, p.getLsbD 7, ew, pred, svlen⟩

/-- P64-R (R260). -/
def rOps64 (rd rs1 rs2 : BitVec 5) (p : BitVec 11) (h : BitVec 4) : Except DecodeError (ROps 7) :=
  match vitp6Fields p with
  | .error e => .error e
  | .ok (ew, pred, svlen) =>
    .ok ⟨h.extractLsb' 3 1 ++ p.extractLsb' 10 1 ++ rd, h.extractLsb' 2 1 ++ p.extractLsb' 9 1 ++ rs1,
      h.extractLsb' 1 1 ++ p.extractLsb' 8 1 ++ rs2, p.getLsbD 6, p.getLsbD 7, ew, pred, svlen⟩

/-- P48-I and P48-LD (R262, R240). -/
def iOps48 (rd rs1 : BitVec 5) (p : BitVec 11) : IOps 6 :=
  ⟨p.extractLsb' 10 1 ++ rd, p.extractLsb' 9 1 ++ rs1, p.getLsbD 7, p.getLsbD 6,
    Ew.ofCode (p.extractLsb' 4 2), tpredField (p.extractLsb' 8 1) p, Svlen.ofCode (p.extractLsb' 0 2)⟩

/-- P64-I and P64-LD: bits 61 and 60 must be zero (R83). -/
def iOps64 (rd rs1 : BitVec 5) (p : BitVec 11) (h : BitVec 4) : Except DecodeError (IOps 7) :=
  if h.extractLsb' 0 2 = 0#2 then
    .ok ⟨h.extractLsb' 3 1 ++ p.extractLsb' 10 1 ++ rd, h.extractLsb' 2 1 ++ p.extractLsb' 9 1 ++ rs1,
      p.getLsbD 7, p.getLsbD 6, Ew.ofCode (p.extractLsb' 4 2), tpredField (p.extractLsb' 8 1) p,
      Svlen.ofCode (p.extractLsb' 0 2)⟩
  else .error .reservedBit

/-- P48-ST (R240). -/
def sOps48 (rs1 rs2 : BitVec 5) (p : BitVec 11) : SOps 6 :=
  ⟨p.extractLsb' 9 1 ++ rs1, p.extractLsb' 8 1 ++ rs2, p.getLsbD 6, p.getLsbD 7,
    Ew.ofCode (p.extractLsb' 4 2), tpredField (p.extractLsb' 10 1) p, Svlen.ofCode (p.extractLsb' 0 2)⟩

/-- P64-ST: bits 63 and 60 must be zero (R83). -/
def sOps64 (rs1 rs2 : BitVec 5) (p : BitVec 11) (h : BitVec 4) : Except DecodeError (SOps 7) :=
  if h.extractLsb' 3 1 = 0#1 ∧ h.extractLsb' 0 1 = 0#1 then
    .ok ⟨h.extractLsb' 2 1 ++ p.extractLsb' 9 1 ++ rs1, h.extractLsb' 1 1 ++ p.extractLsb' 8 1 ++ rs2,
      p.getLsbD 6, p.getLsbD 7, Ew.ofCode (p.extractLsb' 4 2), tpredField (p.extractLsb' 10 1) p,
      Svlen.ofCode (p.extractLsb' 0 2)⟩
  else .error .reservedBit

/-- P48-U: bits 16, 15 and 13 must be zero (R79, R265). -/
def uOps48 (rd : BitVec 5) (p : BitVec 11) : Except DecodeError (UOps 6) :=
  if p.extractLsb' 8 2 = 0#2 ∧ p.extractLsb' 6 1 = 0#1 then
    match vitp6Fields p with
    | .error e => .error e
    | .ok (ew, pred, svlen) => .ok ⟨p.extractLsb' 10 1 ++ rd, p.getLsbD 7, ew, pred, svlen⟩
  else .error .reservedBit

/-- P64-U: bits 62, 61 and 60 must be zero as well (R83, R265). -/
def uOps64 (rd : BitVec 5) (p : BitVec 11) (h : BitVec 4) : Except DecodeError (UOps 7) :=
  if h.extractLsb' 0 3 = 0#3 ∧ p.extractLsb' 8 2 = 0#2 ∧ p.extractLsb' 6 1 = 0#1 then
    match vitp6Fields p with
    | .error e => .error e
    | .ok (ew, pred, svlen) =>
      .ok ⟨h.extractLsb' 3 1 ++ p.extractLsb' 10 1 ++ rd, p.getLsbD 7, ew, pred, svlen⟩
  else .error .reservedBit

/-- P48-FR: bit 12 must be zero; vtp5 in bits 11:7 (R282, R99). -/
def frOps48 (base : BitVec 32) (p : BitVec 11) : Except DecodeError (FROps 6) :=
  if p.extractLsb' 5 1 = 0#1 then
    match Pred.ofCode (p.extractLsb' 2 3) with
    | .error e => .error e
    | .ok pred =>
      .ok ⟨p.extractLsb' 10 1 ++ base.extractLsb' 7 5, p.extractLsb' 9 1 ++ base.extractLsb' 15 5,
        p.extractLsb' 8 1 ++ base.extractLsb' 20 5, p.getLsbD 6, p.getLsbD 7, pred,
        Svlen.ofCode (p.extractLsb' 0 2), base.extractLsb' 12 3, base.extractLsb' 25 2, base.extractLsb' 27 5⟩
  else .error .reservedBit

/-- P64-FR: bit 63 is rd[6] (R83 (b)). -/
def frOps64 (base : BitVec 32) (p : BitVec 11) (h : BitVec 4) : Except DecodeError (FROps 7) :=
  if p.extractLsb' 5 1 = 0#1 then
    match Pred.ofCode (p.extractLsb' 2 3) with
    | .error e => .error e
    | .ok pred =>
      .ok ⟨h.extractLsb' 3 1 ++ p.extractLsb' 10 1 ++ base.extractLsb' 7 5,
        h.extractLsb' 2 1 ++ p.extractLsb' 9 1 ++ base.extractLsb' 15 5,
        h.extractLsb' 1 1 ++ p.extractLsb' 8 1 ++ base.extractLsb' 20 5, p.getLsbD 6, p.getLsbD 7, pred,
        Svlen.ofCode (p.extractLsb' 0 2), base.extractLsb' 12 3, base.extractLsb' 25 2, base.extractLsb' 27 5⟩
  else .error .reservedBit

/-- P48-FR4: vs3 in bit 12, rs3[5] in bit 13 (R288). -/
def fr4Ops48 (base : BitVec 32) (p : BitVec 11) : Except DecodeError (FR4Ops 6) :=
  match Pred.ofCode (p.extractLsb' 2 3) with
  | .error e => .error e
  | .ok pred =>
    .ok ⟨p.extractLsb' 10 1 ++ base.extractLsb' 7 5, p.extractLsb' 9 1 ++ base.extractLsb' 15 5,
      p.extractLsb' 8 1 ++ base.extractLsb' 20 5, p.extractLsb' 6 1 ++ base.extractLsb' 27 5, p.getLsbD 7,
      p.getLsbD 5, pred, Svlen.ofCode (p.extractLsb' 0 2), base.extractLsb' 12 3, base.extractLsb' 25 2⟩

/-- P64-FR4: bit 60 is rs3[6] (R288). -/
def fr4Ops64 (base : BitVec 32) (p : BitVec 11) (h : BitVec 4) : Except DecodeError (FR4Ops 7) :=
  match Pred.ofCode (p.extractLsb' 2 3) with
  | .error e => .error e
  | .ok pred =>
    .ok ⟨h.extractLsb' 3 1 ++ p.extractLsb' 10 1 ++ base.extractLsb' 7 5,
      h.extractLsb' 2 1 ++ p.extractLsb' 9 1 ++ base.extractLsb' 15 5,
      h.extractLsb' 1 1 ++ p.extractLsb' 8 1 ++ base.extractLsb' 20 5,
      h.extractLsb' 0 1 ++ p.extractLsb' 6 1 ++ base.extractLsb' 27 5, p.getLsbD 7, p.getLsbD 5, pred,
      Svlen.ofCode (p.extractLsb' 0 2), base.extractLsb' 12 3, base.extractLsb' 25 2⟩

/-! ### Attaching the prefixed fields to a base instruction -/

/-- The result of a field reader, passed to a constructor. -/
def attach {α : Type} (fields : Except DecodeError α) (k : α → Instr) : Except DecodeError Instr :=
  match fields with
  | .error e => .error e
  | .ok o => .ok (k o)

/-- The P48 form of a base instruction (R108, R109); the others are Reserved (R110, R269). -/
def attach48 (b : Instr) (p : BitVec 11) : Except DecodeError Instr :=
  match b with
  | .lui rd imm => attach (uOps48 rd p) (fun o => .p48Lui o imm)
  | .auipc rd imm => attach (uOps48 rd p) (fun o => .p48Auipc o imm)
  | .addi rd rs1 imm => .ok (.p48Addi (iOps48 rd rs1 p) imm)
  | .slti rd rs1 imm => .ok (.p48Slti (iOps48 rd rs1 p) imm)
  | .sltiu rd rs1 imm => .ok (.p48Sltiu (iOps48 rd rs1 p) imm)
  | .xori rd rs1 imm => .ok (.p48Xori (iOps48 rd rs1 p) imm)
  | .ori rd rs1 imm => .ok (.p48Ori (iOps48 rd rs1 p) imm)
  | .andi rd rs1 imm => .ok (.p48Andi (iOps48 rd rs1 p) imm)
  | .slli rd rs1 imm => .ok (.p48Slli (iOps48 rd rs1 p) imm)
  | .srli rd rs1 imm => .ok (.p48Srli (iOps48 rd rs1 p) imm)
  | .srai rd rs1 imm => .ok (.p48Srai (iOps48 rd rs1 p) imm)
  | .addiw rd rs1 imm => .ok (.p48Addiw (iOps48 rd rs1 p) imm)
  | .slliw rd rs1 imm => .ok (.p48Slliw (iOps48 rd rs1 p) imm)
  | .srliw rd rs1 imm => .ok (.p48Srliw (iOps48 rd rs1 p) imm)
  | .sraiw rd rs1 imm => .ok (.p48Sraiw (iOps48 rd rs1 p) imm)
  | .add rd rs1 rs2 => attach (rOps48 rd rs1 rs2 p) (fun o => .p48Add o)
  | .sub rd rs1 rs2 => attach (rOps48 rd rs1 rs2 p) (fun o => .p48Sub o)
  | .sll rd rs1 rs2 => attach (rOps48 rd rs1 rs2 p) (fun o => .p48Sll o)
  | .slt rd rs1 rs2 => attach (rOps48 rd rs1 rs2 p) (fun o => .p48Slt o)
  | .sltu rd rs1 rs2 => attach (rOps48 rd rs1 rs2 p) (fun o => .p48Sltu o)
  | .xor rd rs1 rs2 => attach (rOps48 rd rs1 rs2 p) (fun o => .p48Xor o)
  | .srl rd rs1 rs2 => attach (rOps48 rd rs1 rs2 p) (fun o => .p48Srl o)
  | .sra rd rs1 rs2 => attach (rOps48 rd rs1 rs2 p) (fun o => .p48Sra o)
  | .or rd rs1 rs2 => attach (rOps48 rd rs1 rs2 p) (fun o => .p48Or o)
  | .and rd rs1 rs2 => attach (rOps48 rd rs1 rs2 p) (fun o => .p48And o)
  | .addw rd rs1 rs2 => attach (rOps48 rd rs1 rs2 p) (fun o => .p48Addw o)
  | .subw rd rs1 rs2 => attach (rOps48 rd rs1 rs2 p) (fun o => .p48Subw o)
  | .sllw rd rs1 rs2 => attach (rOps48 rd rs1 rs2 p) (fun o => .p48Sllw o)
  | .srlw rd rs1 rs2 => attach (rOps48 rd rs1 rs2 p) (fun o => .p48Srlw o)
  | .sraw rd rs1 rs2 => attach (rOps48 rd rs1 rs2 p) (fun o => .p48Sraw o)
  | .lb rd rs1 imm => .ok (.p48Lb (iOps48 rd rs1 p) imm)
  | .lh rd rs1 imm => .ok (.p48Lh (iOps48 rd rs1 p) imm)
  | .lw rd rs1 imm => .ok (.p48Lw (iOps48 rd rs1 p) imm)
  | .ld rd rs1 imm => .ok (.p48Ld (iOps48 rd rs1 p) imm)
  | .lbu rd rs1 imm => .ok (.p48Lbu (iOps48 rd rs1 p) imm)
  | .lhu rd rs1 imm => .ok (.p48Lhu (iOps48 rd rs1 p) imm)
  | .lwu rd rs1 imm => .ok (.p48Lwu (iOps48 rd rs1 p) imm)
  | .sb rs1 rs2 imm => .ok (.p48Sb (sOps48 rs1 rs2 p) imm)
  | .sh rs1 rs2 imm => .ok (.p48Sh (sOps48 rs1 rs2 p) imm)
  | .sw rs1 rs2 imm => .ok (.p48Sw (sOps48 rs1 rs2 p) imm)
  | .sd rs1 rs2 imm => .ok (.p48Sd (sOps48 rs1 rs2 p) imm)
  | .jal _ _ => .error .reservedBase
  | .jalr _ _ _ => .error .reservedBase
  | .beq _ _ _ => .error .reservedBase
  | .bne _ _ _ => .error .reservedBase
  | .blt _ _ _ => .error .reservedBase
  | .bge _ _ _ => .error .reservedBase
  | .bltu _ _ _ => .error .reservedBase
  | .bgeu _ _ _ => .error .reservedBase
  | .fence _ _ _ => .error .reservedBase
  | .ecall => .error .reservedBase
  | .ebreak => .error .reservedBase
  | .csrrw _ _ _ => .error .reservedBase
  | .csrrs _ _ _ => .error .reservedBase
  | .csrrc _ _ _ => .error .reservedBase
  | .csrrwi _ _ _ => .error .reservedBase
  | .csrrsi _ _ _ => .error .reservedBase
  | .csrrci _ _ _ => .error .reservedBase
  | .p48Lui _ _ => .error .reservedBase
  | .p48Auipc _ _ => .error .reservedBase
  | .p48Addi _ _ => .error .reservedBase
  | .p48Slti _ _ => .error .reservedBase
  | .p48Sltiu _ _ => .error .reservedBase
  | .p48Xori _ _ => .error .reservedBase
  | .p48Ori _ _ => .error .reservedBase
  | .p48Andi _ _ => .error .reservedBase
  | .p48Slli _ _ => .error .reservedBase
  | .p48Srli _ _ => .error .reservedBase
  | .p48Srai _ _ => .error .reservedBase
  | .p48Addiw _ _ => .error .reservedBase
  | .p48Slliw _ _ => .error .reservedBase
  | .p48Srliw _ _ => .error .reservedBase
  | .p48Sraiw _ _ => .error .reservedBase
  | .p48Add _ => .error .reservedBase
  | .p48Sub _ => .error .reservedBase
  | .p48Sll _ => .error .reservedBase
  | .p48Slt _ => .error .reservedBase
  | .p48Sltu _ => .error .reservedBase
  | .p48Xor _ => .error .reservedBase
  | .p48Srl _ => .error .reservedBase
  | .p48Sra _ => .error .reservedBase
  | .p48Or _ => .error .reservedBase
  | .p48And _ => .error .reservedBase
  | .p48Addw _ => .error .reservedBase
  | .p48Subw _ => .error .reservedBase
  | .p48Sllw _ => .error .reservedBase
  | .p48Srlw _ => .error .reservedBase
  | .p48Sraw _ => .error .reservedBase
  | .p48Lb _ _ => .error .reservedBase
  | .p48Lh _ _ => .error .reservedBase
  | .p48Lw _ _ => .error .reservedBase
  | .p48Ld _ _ => .error .reservedBase
  | .p48Lbu _ _ => .error .reservedBase
  | .p48Lhu _ _ => .error .reservedBase
  | .p48Lwu _ _ => .error .reservedBase
  | .p48Sb _ _ => .error .reservedBase
  | .p48Sh _ _ => .error .reservedBase
  | .p48Sw _ _ => .error .reservedBase
  | .p48Sd _ _ => .error .reservedBase
  | .p64Lui _ _ _ => .error .reservedBase
  | .p64Auipc _ _ _ => .error .reservedBase
  | .p64Addi _ _ _ => .error .reservedBase
  | .p64Slti _ _ _ => .error .reservedBase
  | .p64Sltiu _ _ _ => .error .reservedBase
  | .p64Xori _ _ _ => .error .reservedBase
  | .p64Ori _ _ _ => .error .reservedBase
  | .p64Andi _ _ _ => .error .reservedBase
  | .p64Slli _ _ _ => .error .reservedBase
  | .p64Srli _ _ _ => .error .reservedBase
  | .p64Srai _ _ _ => .error .reservedBase
  | .p64Addiw _ _ _ => .error .reservedBase
  | .p64Slliw _ _ _ => .error .reservedBase
  | .p64Srliw _ _ _ => .error .reservedBase
  | .p64Sraiw _ _ _ => .error .reservedBase
  | .p64Add _ _ _ => .error .reservedBase
  | .p64Sub _ _ _ => .error .reservedBase
  | .p64Sll _ _ _ => .error .reservedBase
  | .p64Slt _ _ _ => .error .reservedBase
  | .p64Sltu _ _ _ => .error .reservedBase
  | .p64Xor _ _ _ => .error .reservedBase
  | .p64Srl _ _ _ => .error .reservedBase
  | .p64Sra _ _ _ => .error .reservedBase
  | .p64Or _ _ _ => .error .reservedBase
  | .p64And _ _ _ => .error .reservedBase
  | .p64Addw _ _ _ => .error .reservedBase
  | .p64Subw _ _ _ => .error .reservedBase
  | .p64Sllw _ _ _ => .error .reservedBase
  | .p64Srlw _ _ _ => .error .reservedBase
  | .p64Sraw _ _ _ => .error .reservedBase
  | .p64Lb _ _ _ => .error .reservedBase
  | .p64Lh _ _ _ => .error .reservedBase
  | .p64Lw _ _ _ => .error .reservedBase
  | .p64Ld _ _ _ => .error .reservedBase
  | .p64Lbu _ _ _ => .error .reservedBase
  | .p64Lhu _ _ _ => .error .reservedBase
  | .p64Lwu _ _ _ => .error .reservedBase
  | .p64Sb _ _ _ => .error .reservedBase
  | .p64Sh _ _ _ => .error .reservedBase
  | .p64Sw _ _ _ => .error .reservedBase
  | .p64Sd _ _ _ => .error .reservedBase
  | .p48LoadFp _ _ _ => .error .reservedBase
  | .p48StoreFp _ _ _ => .error .reservedBase
  | .p48OpFp _ => .error .reservedBase
  | .p48Madd _ => .error .reservedBase
  | .p48Msub _ => .error .reservedBase
  | .p48Nmsub _ => .error .reservedBase
  | .p48Nmadd _ => .error .reservedBase
  | .p64LoadFp _ _ _ _ => .error .reservedBase
  | .p64StoreFp _ _ _ _ => .error .reservedBase
  | .p64OpFp _ _ _ => .error .reservedBase
  | .p64Madd _ _ => .error .reservedBase
  | .p64Msub _ _ => .error .reservedBase
  | .p64Nmsub _ _ => .error .reservedBase
  | .p64Nmadd _ _ => .error .reservedBase

/-- The P64 form of a base instruction (R111); `vt` is bits 59:48. -/
def attach64 (b : Instr) (p : BitVec 11) (h : BitVec 4) (vt : BitVec 12) : Except DecodeError Instr :=
  match VLtyp.ofCode vt with
  | .error e => .error e
  | .ok v =>
    match b with
    | .lui rd imm => attach (uOps64 rd p h) (fun o => .p64Lui o imm v)
    | .auipc rd imm => attach (uOps64 rd p h) (fun o => .p64Auipc o imm v)
    | .addi rd rs1 imm => attach (iOps64 rd rs1 p h) (fun o => .p64Addi o imm v)
    | .slti rd rs1 imm => attach (iOps64 rd rs1 p h) (fun o => .p64Slti o imm v)
    | .sltiu rd rs1 imm => attach (iOps64 rd rs1 p h) (fun o => .p64Sltiu o imm v)
    | .xori rd rs1 imm => attach (iOps64 rd rs1 p h) (fun o => .p64Xori o imm v)
    | .ori rd rs1 imm => attach (iOps64 rd rs1 p h) (fun o => .p64Ori o imm v)
    | .andi rd rs1 imm => attach (iOps64 rd rs1 p h) (fun o => .p64Andi o imm v)
    | .slli rd rs1 imm => attach (iOps64 rd rs1 p h) (fun o => .p64Slli o imm v)
    | .srli rd rs1 imm => attach (iOps64 rd rs1 p h) (fun o => .p64Srli o imm v)
    | .srai rd rs1 imm => attach (iOps64 rd rs1 p h) (fun o => .p64Srai o imm v)
    | .addiw rd rs1 imm => attach (iOps64 rd rs1 p h) (fun o => .p64Addiw o imm v)
    | .slliw rd rs1 imm => attach (iOps64 rd rs1 p h) (fun o => .p64Slliw o imm v)
    | .srliw rd rs1 imm => attach (iOps64 rd rs1 p h) (fun o => .p64Srliw o imm v)
    | .sraiw rd rs1 imm => attach (iOps64 rd rs1 p h) (fun o => .p64Sraiw o imm v)
    | .add rd rs1 rs2 => attach (rOps64 rd rs1 rs2 p h) (fun o => .p64Add o (h.getLsbD 0) v)
    | .sub rd rs1 rs2 => attach (rOps64 rd rs1 rs2 p h) (fun o => .p64Sub o (h.getLsbD 0) v)
    | .sll rd rs1 rs2 => attach (rOps64 rd rs1 rs2 p h) (fun o => .p64Sll o (h.getLsbD 0) v)
    | .slt rd rs1 rs2 => attach (rOps64 rd rs1 rs2 p h) (fun o => .p64Slt o (h.getLsbD 0) v)
    | .sltu rd rs1 rs2 => attach (rOps64 rd rs1 rs2 p h) (fun o => .p64Sltu o (h.getLsbD 0) v)
    | .xor rd rs1 rs2 => attach (rOps64 rd rs1 rs2 p h) (fun o => .p64Xor o (h.getLsbD 0) v)
    | .srl rd rs1 rs2 => attach (rOps64 rd rs1 rs2 p h) (fun o => .p64Srl o (h.getLsbD 0) v)
    | .sra rd rs1 rs2 => attach (rOps64 rd rs1 rs2 p h) (fun o => .p64Sra o (h.getLsbD 0) v)
    | .or rd rs1 rs2 => attach (rOps64 rd rs1 rs2 p h) (fun o => .p64Or o (h.getLsbD 0) v)
    | .and rd rs1 rs2 => attach (rOps64 rd rs1 rs2 p h) (fun o => .p64And o (h.getLsbD 0) v)
    | .addw rd rs1 rs2 => attach (rOps64 rd rs1 rs2 p h) (fun o => .p64Addw o (h.getLsbD 0) v)
    | .subw rd rs1 rs2 => attach (rOps64 rd rs1 rs2 p h) (fun o => .p64Subw o (h.getLsbD 0) v)
    | .sllw rd rs1 rs2 => attach (rOps64 rd rs1 rs2 p h) (fun o => .p64Sllw o (h.getLsbD 0) v)
    | .srlw rd rs1 rs2 => attach (rOps64 rd rs1 rs2 p h) (fun o => .p64Srlw o (h.getLsbD 0) v)
    | .sraw rd rs1 rs2 => attach (rOps64 rd rs1 rs2 p h) (fun o => .p64Sraw o (h.getLsbD 0) v)
    | .lb rd rs1 imm => attach (iOps64 rd rs1 p h) (fun o => .p64Lb o imm v)
    | .lh rd rs1 imm => attach (iOps64 rd rs1 p h) (fun o => .p64Lh o imm v)
    | .lw rd rs1 imm => attach (iOps64 rd rs1 p h) (fun o => .p64Lw o imm v)
    | .ld rd rs1 imm => attach (iOps64 rd rs1 p h) (fun o => .p64Ld o imm v)
    | .lbu rd rs1 imm => attach (iOps64 rd rs1 p h) (fun o => .p64Lbu o imm v)
    | .lhu rd rs1 imm => attach (iOps64 rd rs1 p h) (fun o => .p64Lhu o imm v)
    | .lwu rd rs1 imm => attach (iOps64 rd rs1 p h) (fun o => .p64Lwu o imm v)
    | .sb rs1 rs2 imm => attach (sOps64 rs1 rs2 p h) (fun o => .p64Sb o imm v)
    | .sh rs1 rs2 imm => attach (sOps64 rs1 rs2 p h) (fun o => .p64Sh o imm v)
    | .sw rs1 rs2 imm => attach (sOps64 rs1 rs2 p h) (fun o => .p64Sw o imm v)
    | .sd rs1 rs2 imm => attach (sOps64 rs1 rs2 p h) (fun o => .p64Sd o imm v)
    | .jal _ _ => .error .reservedBase
    | .jalr _ _ _ => .error .reservedBase
    | .beq _ _ _ => .error .reservedBase
    | .bne _ _ _ => .error .reservedBase
    | .blt _ _ _ => .error .reservedBase
    | .bge _ _ _ => .error .reservedBase
    | .bltu _ _ _ => .error .reservedBase
    | .bgeu _ _ _ => .error .reservedBase
    | .fence _ _ _ => .error .reservedBase
    | .ecall => .error .reservedBase
    | .ebreak => .error .reservedBase
    | .csrrw _ _ _ => .error .reservedBase
    | .csrrs _ _ _ => .error .reservedBase
    | .csrrc _ _ _ => .error .reservedBase
    | .csrrwi _ _ _ => .error .reservedBase
    | .csrrsi _ _ _ => .error .reservedBase
    | .csrrci _ _ _ => .error .reservedBase
    | .p48Lui _ _ => .error .reservedBase
    | .p48Auipc _ _ => .error .reservedBase
    | .p48Addi _ _ => .error .reservedBase
    | .p48Slti _ _ => .error .reservedBase
    | .p48Sltiu _ _ => .error .reservedBase
    | .p48Xori _ _ => .error .reservedBase
    | .p48Ori _ _ => .error .reservedBase
    | .p48Andi _ _ => .error .reservedBase
    | .p48Slli _ _ => .error .reservedBase
    | .p48Srli _ _ => .error .reservedBase
    | .p48Srai _ _ => .error .reservedBase
    | .p48Addiw _ _ => .error .reservedBase
    | .p48Slliw _ _ => .error .reservedBase
    | .p48Srliw _ _ => .error .reservedBase
    | .p48Sraiw _ _ => .error .reservedBase
    | .p48Add _ => .error .reservedBase
    | .p48Sub _ => .error .reservedBase
    | .p48Sll _ => .error .reservedBase
    | .p48Slt _ => .error .reservedBase
    | .p48Sltu _ => .error .reservedBase
    | .p48Xor _ => .error .reservedBase
    | .p48Srl _ => .error .reservedBase
    | .p48Sra _ => .error .reservedBase
    | .p48Or _ => .error .reservedBase
    | .p48And _ => .error .reservedBase
    | .p48Addw _ => .error .reservedBase
    | .p48Subw _ => .error .reservedBase
    | .p48Sllw _ => .error .reservedBase
    | .p48Srlw _ => .error .reservedBase
    | .p48Sraw _ => .error .reservedBase
    | .p48Lb _ _ => .error .reservedBase
    | .p48Lh _ _ => .error .reservedBase
    | .p48Lw _ _ => .error .reservedBase
    | .p48Ld _ _ => .error .reservedBase
    | .p48Lbu _ _ => .error .reservedBase
    | .p48Lhu _ _ => .error .reservedBase
    | .p48Lwu _ _ => .error .reservedBase
    | .p48Sb _ _ => .error .reservedBase
    | .p48Sh _ _ => .error .reservedBase
    | .p48Sw _ _ => .error .reservedBase
    | .p48Sd _ _ => .error .reservedBase
    | .p64Lui _ _ _ => .error .reservedBase
    | .p64Auipc _ _ _ => .error .reservedBase
    | .p64Addi _ _ _ => .error .reservedBase
    | .p64Slti _ _ _ => .error .reservedBase
    | .p64Sltiu _ _ _ => .error .reservedBase
    | .p64Xori _ _ _ => .error .reservedBase
    | .p64Ori _ _ _ => .error .reservedBase
    | .p64Andi _ _ _ => .error .reservedBase
    | .p64Slli _ _ _ => .error .reservedBase
    | .p64Srli _ _ _ => .error .reservedBase
    | .p64Srai _ _ _ => .error .reservedBase
    | .p64Addiw _ _ _ => .error .reservedBase
    | .p64Slliw _ _ _ => .error .reservedBase
    | .p64Srliw _ _ _ => .error .reservedBase
    | .p64Sraiw _ _ _ => .error .reservedBase
    | .p64Add _ _ _ => .error .reservedBase
    | .p64Sub _ _ _ => .error .reservedBase
    | .p64Sll _ _ _ => .error .reservedBase
    | .p64Slt _ _ _ => .error .reservedBase
    | .p64Sltu _ _ _ => .error .reservedBase
    | .p64Xor _ _ _ => .error .reservedBase
    | .p64Srl _ _ _ => .error .reservedBase
    | .p64Sra _ _ _ => .error .reservedBase
    | .p64Or _ _ _ => .error .reservedBase
    | .p64And _ _ _ => .error .reservedBase
    | .p64Addw _ _ _ => .error .reservedBase
    | .p64Subw _ _ _ => .error .reservedBase
    | .p64Sllw _ _ _ => .error .reservedBase
    | .p64Srlw _ _ _ => .error .reservedBase
    | .p64Sraw _ _ _ => .error .reservedBase
    | .p64Lb _ _ _ => .error .reservedBase
    | .p64Lh _ _ _ => .error .reservedBase
    | .p64Lw _ _ _ => .error .reservedBase
    | .p64Ld _ _ _ => .error .reservedBase
    | .p64Lbu _ _ _ => .error .reservedBase
    | .p64Lhu _ _ _ => .error .reservedBase
    | .p64Lwu _ _ _ => .error .reservedBase
    | .p64Sb _ _ _ => .error .reservedBase
    | .p64Sh _ _ _ => .error .reservedBase
    | .p64Sw _ _ _ => .error .reservedBase
    | .p64Sd _ _ _ => .error .reservedBase
    | .p48LoadFp _ _ _ => .error .reservedBase
    | .p48StoreFp _ _ _ => .error .reservedBase
    | .p48OpFp _ => .error .reservedBase
    | .p48Madd _ => .error .reservedBase
    | .p48Msub _ => .error .reservedBase
    | .p48Nmsub _ => .error .reservedBase
    | .p48Nmadd _ => .error .reservedBase
    | .p64LoadFp _ _ _ _ => .error .reservedBase
    | .p64StoreFp _ _ _ _ => .error .reservedBase
    | .p64OpFp _ _ _ => .error .reservedBase
    | .p64Madd _ _ => .error .reservedBase
    | .p64Msub _ _ => .error .reservedBase
    | .p64Nmsub _ _ => .error .reservedBase
    | .p64Nmadd _ _ => .error .reservedBase

/-- A P48 word (R73 to R76, R114). Floating-point opcodes take the formats of R109 whatever `HAS_F` is; that
they are illegal without `HAS_F` is in their meaning (R280). -/
def decode48 (w : BitVec 48) : Except DecodeError Instr :=
  let base : BitVec 32 := w.extractLsb' 18 30 ++ 0b11#2
  let p := w.extractLsb' 7 11
  if w.extractLsb' 0 6 ≠ 0b011111#6 then .error .wrongMarker
  else if w.getLsbD 6 then .error .reservedBit
  else
    match (w.extractLsb' 18 5).toNat with
    | 0b00001 =>
      .ok (.p48LoadFp (iOps48 (base.extractLsb' 7 5) (base.extractLsb' 15 5) p) (base.extractLsb' 12 3)
        (base.extractLsb' 20 12))
    | 0b01001 =>
      .ok (.p48StoreFp (sOps48 (base.extractLsb' 15 5) (base.extractLsb' 20 5) p) (base.extractLsb' 12 3)
        (base.extractLsb' 25 7 ++ base.extractLsb' 7 5))
    | 0b10100 => attach (frOps48 base p) (fun o => .p48OpFp o)
    | 0b10000 => attach (fr4Ops48 base p) (fun o => .p48Madd o)
    | 0b10001 => attach (fr4Ops48 base p) (fun o => .p48Msub o)
    | 0b10010 => attach (fr4Ops48 base p) (fun o => .p48Nmsub o)
    | 0b10011 => attach (fr4Ops48 base p) (fun o => .p48Nmadd o)
    | _ =>
      match decode32 base with
      | .error e => .error e
      | .ok b => attach48 b p

/-- A P64 word (R80 to R83, R114). -/
def decode64 (w : BitVec 64) : Except DecodeError Instr :=
  let base : BitVec 32 := w.extractLsb' 18 30 ++ 0b11#2
  let p := w.extractLsb' 7 11
  let h := w.extractLsb' 60 4
  let vt := w.extractLsb' 48 12
  if w.extractLsb' 0 7 ≠ 0b0111111#7 then .error .wrongMarker
  else
    match (w.extractLsb' 18 5).toNat with
    | 0b00001 =>
      match VLtyp.ofCode vt with
      | .error e => .error e
      | .ok v =>
        attach (iOps64 (base.extractLsb' 7 5) (base.extractLsb' 15 5) p h)
          (fun o => .p64LoadFp o (base.extractLsb' 12 3) (base.extractLsb' 20 12) v)
    | 0b01001 =>
      match VLtyp.ofCode vt with
      | .error e => .error e
      | .ok v =>
        attach (sOps64 (base.extractLsb' 15 5) (base.extractLsb' 20 5) p h)
          (fun o => .p64StoreFp o (base.extractLsb' 12 3) (base.extractLsb' 25 7 ++ base.extractLsb' 7 5) v)
    | 0b10100 =>
      match VLtyp.ofCode vt with
      | .error e => .error e
      | .ok v => attach (frOps64 base p h) (fun o => .p64OpFp o (h.getLsbD 0) v)
    | 0b10000 =>
      match VLtyp.ofCode vt with
      | .error e => .error e
      | .ok v => attach (fr4Ops64 base p h) (fun o => .p64Madd o v)
    | 0b10001 =>
      match VLtyp.ofCode vt with
      | .error e => .error e
      | .ok v => attach (fr4Ops64 base p h) (fun o => .p64Msub o v)
    | 0b10010 =>
      match VLtyp.ofCode vt with
      | .error e => .error e
      | .ok v => attach (fr4Ops64 base p h) (fun o => .p64Nmsub o v)
    | 0b10011 =>
      match VLtyp.ofCode vt with
      | .error e => .error e
      | .ok v => attach (fr4Ops64 base p h) (fun o => .p64Nmadd o v)
    | _ =>
      match decode32 base with
      | .error e => .error e
      | .ok b => attach64 b p h vt

/-! ### Words and bytes -/

/-- An instruction word of one of the three lengths (R70, R11). -/
inductive InstrWord where
  | w32 (w : BitVec 32)
  | w48 (w : BitVec 48)
  | w64 (w : BitVec 64)
deriving DecidableEq, Repr

/-- Length in bytes (R26). -/
def InstrWord.ilen : InstrWord → Nat
  | .w32 _ => 4
  | .w48 _ => 6
  | .w64 _ => 8

/-- The word zero-extended to 64 bits: the trap value of IllegalInstruction (R341). -/
def InstrWord.toWord : InstrWord → Word
  | .w32 w => w.setWidth 64
  | .w48 w => w.setWidth 64
  | .w64 w => w

/-- The instruction of a word. -/
def decode : InstrWord → Except DecodeError Instr
  | .w32 w => decode32 w
  | .w48 w => decode48 w
  | .w64 w => decode64 w

/-- What the first parcel says of the length (R71). -/
inductive Length where
  | sixteen
  | l32
  | l48
  | l64
  | longer
deriving DecidableEq, Repr

/-- R71, its conditions tested in its order. -/
def lengthOf (parcel : BitVec 16) : Length :=
  if parcel.extractLsb' 0 2 ≠ 0b11#2 then .sixteen
  else if parcel.extractLsb' 2 3 ≠ 0b111#3 then .l32
  else if parcel.getLsbD 5 = false then .l48
  else if parcel.getLsbD 6 = false then .l64
  else .longer

/-- Bytes in address order, the first the least significant (R50). -/
def bytesOf : (n : Nat) → Word → List Byte
  | 0, _ => []
  | n + 1, v => v.setWidth 8 :: bytesOf n (v >>> 8)

/-- The parcel of two bytes, the lower address less significant (R50). -/
def parcelOf (lo hi : Byte) : BitVec 16 := hi ++ lo

/-- Decoding bytes that begin with an instruction: the instruction and the bytes after it. -/
def decodeBytes : List Byte → Except DecodeError (Instr × List Byte)
  | b0 :: b1 :: rest =>
    match lengthOf (parcelOf b0 b1) with
    | .sixteen => .error .sixteenBit
    | .longer => .error .tooLong
    | .l32 =>
      match rest with
      | b2 :: b3 :: r => attachRest (decode32 (b3 ++ b2 ++ b1 ++ b0)) r
      | _ => .error .truncated
    | .l48 =>
      match rest with
      | b2 :: b3 :: b4 :: b5 :: r => attachRest (decode48 (b5 ++ b4 ++ b3 ++ b2 ++ b1 ++ b0)) r
      | _ => .error .truncated
    | .l64 =>
      match rest with
      | b2 :: b3 :: b4 :: b5 :: b6 :: b7 :: r =>
        attachRest (decode64 (b7 ++ b6 ++ b5 ++ b4 ++ b3 ++ b2 ++ b1 ++ b0)) r
      | _ => .error .truncated
  | _ => .error .truncated
where
  /-- Pairs a decoded instruction with the bytes that follow it. -/
  attachRest (d : Except DecodeError Instr) (r : List Byte) : Except DecodeError (Instr × List Byte) :=
    match d with
    | .error e => .error e
    | .ok i => .ok (i, r)

/-- The host's reading of an opcode-table word: `nbits` bits of `w`, every bit above them 0, laid out as
bytes in address order and given to the decoder. -/
def decodeTableWord (nbits w : Nat) : Option Instr :=
  match decodeBytes (bytesOf 8 (BitVec.ofNat 64 (w % 2 ^ nbits))) with
  | .error _ => none
  | .ok (i, _) => some i

/-! ### The encoder -/

/-- R-type (R72). -/
def encR (f7 : BitVec 7) (rs2 rs1 : BitVec 5) (f3 : BitVec 3) (rd : BitVec 5) (op : BitVec 7) : BitVec 32 :=
  f7 ++ rs2 ++ rs1 ++ f3 ++ rd ++ op

/-- I-type (R72). -/
def encI (imm : BitVec 12) (rs1 : BitVec 5) (f3 : BitVec 3) (rd : BitVec 5) (op : BitVec 7) : BitVec 32 :=
  imm ++ rs1 ++ f3 ++ rd ++ op

/-- S-type (R72). -/
def encS (imm : BitVec 12) (rs2 rs1 : BitVec 5) (f3 : BitVec 3) (op : BitVec 7) : BitVec 32 :=
  imm.extractLsb' 5 7 ++ rs2 ++ rs1 ++ f3 ++ imm.extractLsb' 0 5 ++ op

/-- U-type (R72). -/
def encU (imm : BitVec 20) (rd : BitVec 5) (op : BitVec 7) : BitVec 32 := imm ++ rd ++ op

/-- B-type (R131). -/
def encB (off : BitVec 13) (rs2 rs1 : BitVec 5) (f3 : BitVec 3) (op : BitVec 7) : BitVec 32 :=
  off.extractLsb' 12 1 ++ off.extractLsb' 5 6 ++ rs2 ++ rs1 ++ f3 ++ off.extractLsb' 1 4 ++
    off.extractLsb' 11 1 ++ op

/-- J-type (R131). -/
def encJ (off : BitVec 21) (rd : BitVec 5) (op : BitVec 7) : BitVec 32 :=
  off.extractLsb' 20 1 ++ off.extractLsb' 1 10 ++ off.extractLsb' 11 1 ++ off.extractLsb' 12 8 ++ rd ++ op

/-- Register-number bits 4:0, which the base instruction carries (R85). -/
def lo5 {n : Nat} (r : BitVec n) : BitVec 5 := r.extractLsb' 0 5

/-- Register-number bit 5, which bits 17:7 carry (R85). -/
def bit5 {n : Nat} (r : BitVec n) : BitVec 1 := r.extractLsb' 5 1

/-- Register-number bit 6, which the 64-bit prefix carries (R85). -/
def bit6 {n : Nat} (r : BitVec n) : BitVec 1 := r.extractLsb' 6 1

/-- vitp6 (R100). -/
def vitp6 (ew : Ew) (pred : Pred) (svlen : Svlen) : BitVec 6 :=
  ew.code ++ pred.code.extractLsb' 0 2 ++ svlen.code

/-- vitp7[5:0] (R101). -/
def vitp7Low (ew : Ew) (tpred : TPred) (svlen : Svlen) : BitVec 6 :=
  ew.code ++ tpred.code.extractLsb' 0 2 ++ svlen.code

/-- vitp7[6] (R101). -/
def vitp7Top (tpred : TPred) : BitVec 1 := tpred.code.extractLsb' 2 1

/-- vtp5 (R99). -/
def vtp5 (pred : Pred) (svlen : Svlen) : BitVec 5 := pred.code ++ svlen.code

/-- Bits 17:7 of the R formats (R76). -/
def ROps.bits17to7 {n : Nat} (o : ROps n) : BitVec 11 :=
  bit5 o.rd ++ bit5 o.rs1 ++ bit5 o.rs2 ++ BitVec.ofBool o.vs2 ++ BitVec.ofBool o.vs1 ++
    vitp6 o.ew o.pred o.svlen

/-- Bits 17:7 of the I and LD formats (R76). -/
def IOps.bits17to7 {n : Nat} (o : IOps n) : BitVec 11 :=
  bit5 o.rd ++ bit5 o.rs1 ++ vitp7Top o.tpred ++ BitVec.ofBool o.vd ++ BitVec.ofBool o.vs1 ++
    vitp7Low o.ew o.tpred o.svlen

/-- Bits 17:7 of the ST formats (R76). -/
def SOps.bits17to7 {n : Nat} (o : SOps n) : BitVec 11 :=
  vitp7Top o.tpred ++ bit5 o.rs1 ++ bit5 o.rs2 ++ BitVec.ofBool o.vs2 ++ BitVec.ofBool o.vs1 ++
    vitp7Low o.ew o.tpred o.svlen

/-- Bits 17:7 of the U formats (R76). -/
def UOps.bits17to7 {n : Nat} (o : UOps n) : BitVec 11 :=
  bit5 o.rd ++ 0#2 ++ BitVec.ofBool o.vd ++ 0#1 ++ vitp6 o.ew o.pred o.svlen

/-- Bits 17:7 of the FR formats (R76). -/
def FROps.bits17to7 {n : Nat} (o : FROps n) : BitVec 11 :=
  bit5 o.rd ++ bit5 o.rs1 ++ bit5 o.rs2 ++ BitVec.ofBool o.vs2 ++ BitVec.ofBool o.vs1 ++ 0#1 ++
    vtp5 o.pred o.svlen

/-- Bits 17:7 of the FR4 formats (R76). -/
def FR4Ops.bits17to7 {n : Nat} (o : FR4Ops n) : BitVec 11 :=
  bit5 o.rd ++ bit5 o.rs1 ++ bit5 o.rs2 ++ BitVec.ofBool o.vs2 ++ bit5 o.rs3 ++ BitVec.ofBool o.vs3 ++
    vtp5 o.pred o.svlen

/-- A P48 word from its base word and bits 17:7 (R73, R74). -/
def pack48 (base : BitVec 32) (p : BitVec 11) : BitVec 48 := base.extractLsb' 2 30 ++ p ++ 0b0011111#7

/-- A P64 word from bits 63:60, VLtyp, its base word and bits 17:7 (R80 to R82). -/
def pack64 (h : BitVec 4) (v : VLtyp) (base : BitVec 32) (p : BitVec 11) : BitVec 64 :=
  h ++ v.code ++ base.extractLsb' 2 30 ++ p ++ 0b0111111#7

/-- Base word of an OP-FP instruction (R282). -/
def FROps.base {n : Nat} (o : FROps n) : BitVec 32 :=
  encR (o.funct5 ++ o.fmt) (lo5 o.rs2) (lo5 o.rs1) o.rm (lo5 o.rd) 0b1010011#7

/-- Base word of a fused multiply-add (R288), `op` its major opcode. -/
def FR4Ops.base {n : Nat} (o : FR4Ops n) (op : BitVec 7) : BitVec 32 :=
  encR (lo5 o.rs3 ++ o.fmt) (lo5 o.rs2) (lo5 o.rs1) o.rm (lo5 o.rd) op

/-- The word of an instruction. -/
def encode : Instr → InstrWord
  | .lui rd imm => .w32 (encU imm rd 0b0110111#7)
  | .auipc rd imm => .w32 (encU imm rd 0b0010111#7)
  | .addi rd rs1 imm => .w32 (encI imm rs1 0b000#3 rd 0b0010011#7)
  | .slti rd rs1 imm => .w32 (encI imm rs1 0b010#3 rd 0b0010011#7)
  | .sltiu rd rs1 imm => .w32 (encI imm rs1 0b011#3 rd 0b0010011#7)
  | .xori rd rs1 imm => .w32 (encI imm rs1 0b100#3 rd 0b0010011#7)
  | .ori rd rs1 imm => .w32 (encI imm rs1 0b110#3 rd 0b0010011#7)
  | .andi rd rs1 imm => .w32 (encI imm rs1 0b111#3 rd 0b0010011#7)
  | .slli rd rs1 shamt => .w32 (encI (0b000000#6 ++ shamt) rs1 0b001#3 rd 0b0010011#7)
  | .srli rd rs1 shamt => .w32 (encI (0b000000#6 ++ shamt) rs1 0b101#3 rd 0b0010011#7)
  | .srai rd rs1 shamt => .w32 (encI (0b010000#6 ++ shamt) rs1 0b101#3 rd 0b0010011#7)
  | .addiw rd rs1 imm => .w32 (encI imm rs1 0b000#3 rd 0b0011011#7)
  | .slliw rd rs1 shamt => .w32 (encI (0b0000000#7 ++ shamt) rs1 0b001#3 rd 0b0011011#7)
  | .srliw rd rs1 shamt => .w32 (encI (0b0000000#7 ++ shamt) rs1 0b101#3 rd 0b0011011#7)
  | .sraiw rd rs1 shamt => .w32 (encI (0b0100000#7 ++ shamt) rs1 0b101#3 rd 0b0011011#7)
  | .add rd rs1 rs2 => .w32 (encR 0b0000000#7 rs2 rs1 0b000#3 rd 0b0110011#7)
  | .sub rd rs1 rs2 => .w32 (encR 0b0100000#7 rs2 rs1 0b000#3 rd 0b0110011#7)
  | .sll rd rs1 rs2 => .w32 (encR 0b0000000#7 rs2 rs1 0b001#3 rd 0b0110011#7)
  | .slt rd rs1 rs2 => .w32 (encR 0b0000000#7 rs2 rs1 0b010#3 rd 0b0110011#7)
  | .sltu rd rs1 rs2 => .w32 (encR 0b0000000#7 rs2 rs1 0b011#3 rd 0b0110011#7)
  | .xor rd rs1 rs2 => .w32 (encR 0b0000000#7 rs2 rs1 0b100#3 rd 0b0110011#7)
  | .srl rd rs1 rs2 => .w32 (encR 0b0000000#7 rs2 rs1 0b101#3 rd 0b0110011#7)
  | .sra rd rs1 rs2 => .w32 (encR 0b0100000#7 rs2 rs1 0b101#3 rd 0b0110011#7)
  | .or rd rs1 rs2 => .w32 (encR 0b0000000#7 rs2 rs1 0b110#3 rd 0b0110011#7)
  | .and rd rs1 rs2 => .w32 (encR 0b0000000#7 rs2 rs1 0b111#3 rd 0b0110011#7)
  | .addw rd rs1 rs2 => .w32 (encR 0b0000000#7 rs2 rs1 0b000#3 rd 0b0111011#7)
  | .subw rd rs1 rs2 => .w32 (encR 0b0100000#7 rs2 rs1 0b000#3 rd 0b0111011#7)
  | .sllw rd rs1 rs2 => .w32 (encR 0b0000000#7 rs2 rs1 0b001#3 rd 0b0111011#7)
  | .srlw rd rs1 rs2 => .w32 (encR 0b0000000#7 rs2 rs1 0b101#3 rd 0b0111011#7)
  | .sraw rd rs1 rs2 => .w32 (encR 0b0100000#7 rs2 rs1 0b101#3 rd 0b0111011#7)
  | .lb rd rs1 imm => .w32 (encI imm rs1 0b000#3 rd 0b0000011#7)
  | .lh rd rs1 imm => .w32 (encI imm rs1 0b001#3 rd 0b0000011#7)
  | .lw rd rs1 imm => .w32 (encI imm rs1 0b010#3 rd 0b0000011#7)
  | .ld rd rs1 imm => .w32 (encI imm rs1 0b011#3 rd 0b0000011#7)
  | .lbu rd rs1 imm => .w32 (encI imm rs1 0b100#3 rd 0b0000011#7)
  | .lhu rd rs1 imm => .w32 (encI imm rs1 0b101#3 rd 0b0000011#7)
  | .lwu rd rs1 imm => .w32 (encI imm rs1 0b110#3 rd 0b0000011#7)
  | .sb rs1 rs2 imm => .w32 (encS imm rs2 rs1 0b000#3 0b0100011#7)
  | .sh rs1 rs2 imm => .w32 (encS imm rs2 rs1 0b001#3 0b0100011#7)
  | .sw rs1 rs2 imm => .w32 (encS imm rs2 rs1 0b010#3 0b0100011#7)
  | .sd rs1 rs2 imm => .w32 (encS imm rs2 rs1 0b011#3 0b0100011#7)
  | .jal rd offset => .w32 (encJ offset rd 0b1101111#7)
  | .jalr rd rs1 imm => .w32 (encI imm rs1 0b000#3 rd 0b1100111#7)
  | .beq rs1 rs2 offset => .w32 (encB offset rs2 rs1 0b000#3 0b1100011#7)
  | .bne rs1 rs2 offset => .w32 (encB offset rs2 rs1 0b001#3 0b1100011#7)
  | .blt rs1 rs2 offset => .w32 (encB offset rs2 rs1 0b100#3 0b1100011#7)
  | .bge rs1 rs2 offset => .w32 (encB offset rs2 rs1 0b101#3 0b1100011#7)
  | .bltu rs1 rs2 offset => .w32 (encB offset rs2 rs1 0b110#3 0b1100011#7)
  | .bgeu rs1 rs2 offset => .w32 (encB offset rs2 rs1 0b111#3 0b1100011#7)
  | .fence rd rs1 imm => .w32 (encI imm rs1 0b000#3 rd 0b0001111#7)
  | .ecall => .w32 0x00000073#32
  | .ebreak => .w32 0x00100073#32
  | .csrrw rd rs1 csr => .w32 (encI csr rs1 0b001#3 rd 0b1110011#7)
  | .csrrs rd rs1 csr => .w32 (encI csr rs1 0b010#3 rd 0b1110011#7)
  | .csrrc rd rs1 csr => .w32 (encI csr rs1 0b011#3 rd 0b1110011#7)
  | .csrrwi rd zimm csr => .w32 (encI csr zimm 0b101#3 rd 0b1110011#7)
  | .csrrsi rd zimm csr => .w32 (encI csr zimm 0b110#3 rd 0b1110011#7)
  | .csrrci rd zimm csr => .w32 (encI csr zimm 0b111#3 rd 0b1110011#7)
  | .p48Lui o imm => .w48 (pack48 (encU imm (lo5 o.rd) 0b0110111#7) o.bits17to7)
  | .p48Auipc o imm => .w48 (pack48 (encU imm (lo5 o.rd) 0b0010111#7) o.bits17to7)
  | .p48Addi o imm => .w48 (pack48 (encI imm (lo5 o.rs1) 0b000#3 (lo5 o.rd) 0b0010011#7) o.bits17to7)
  | .p48Slti o imm => .w48 (pack48 (encI imm (lo5 o.rs1) 0b010#3 (lo5 o.rd) 0b0010011#7) o.bits17to7)
  | .p48Sltiu o imm => .w48 (pack48 (encI imm (lo5 o.rs1) 0b011#3 (lo5 o.rd) 0b0010011#7) o.bits17to7)
  | .p48Xori o imm => .w48 (pack48 (encI imm (lo5 o.rs1) 0b100#3 (lo5 o.rd) 0b0010011#7) o.bits17to7)
  | .p48Ori o imm => .w48 (pack48 (encI imm (lo5 o.rs1) 0b110#3 (lo5 o.rd) 0b0010011#7) o.bits17to7)
  | .p48Andi o imm => .w48 (pack48 (encI imm (lo5 o.rs1) 0b111#3 (lo5 o.rd) 0b0010011#7) o.bits17to7)
  | .p48Slli o shamt =>
    .w48 (pack48 (encI (0b000000#6 ++ shamt) (lo5 o.rs1) 0b001#3 (lo5 o.rd) 0b0010011#7) o.bits17to7)
  | .p48Srli o shamt =>
    .w48 (pack48 (encI (0b000000#6 ++ shamt) (lo5 o.rs1) 0b101#3 (lo5 o.rd) 0b0010011#7) o.bits17to7)
  | .p48Srai o shamt =>
    .w48 (pack48 (encI (0b010000#6 ++ shamt) (lo5 o.rs1) 0b101#3 (lo5 o.rd) 0b0010011#7) o.bits17to7)
  | .p48Addiw o imm => .w48 (pack48 (encI imm (lo5 o.rs1) 0b000#3 (lo5 o.rd) 0b0011011#7) o.bits17to7)
  | .p48Slliw o shamt =>
    .w48 (pack48 (encI (0b0000000#7 ++ shamt) (lo5 o.rs1) 0b001#3 (lo5 o.rd) 0b0011011#7) o.bits17to7)
  | .p48Srliw o shamt =>
    .w48 (pack48 (encI (0b0000000#7 ++ shamt) (lo5 o.rs1) 0b101#3 (lo5 o.rd) 0b0011011#7) o.bits17to7)
  | .p48Sraiw o shamt =>
    .w48 (pack48 (encI (0b0100000#7 ++ shamt) (lo5 o.rs1) 0b101#3 (lo5 o.rd) 0b0011011#7) o.bits17to7)
  | .p48Add o =>
    .w48 (pack48 (encR 0b0000000#7 (lo5 o.rs2) (lo5 o.rs1) 0b000#3 (lo5 o.rd) 0b0110011#7) o.bits17to7)
  | .p48Sub o =>
    .w48 (pack48 (encR 0b0100000#7 (lo5 o.rs2) (lo5 o.rs1) 0b000#3 (lo5 o.rd) 0b0110011#7) o.bits17to7)
  | .p48Sll o =>
    .w48 (pack48 (encR 0b0000000#7 (lo5 o.rs2) (lo5 o.rs1) 0b001#3 (lo5 o.rd) 0b0110011#7) o.bits17to7)
  | .p48Slt o =>
    .w48 (pack48 (encR 0b0000000#7 (lo5 o.rs2) (lo5 o.rs1) 0b010#3 (lo5 o.rd) 0b0110011#7) o.bits17to7)
  | .p48Sltu o =>
    .w48 (pack48 (encR 0b0000000#7 (lo5 o.rs2) (lo5 o.rs1) 0b011#3 (lo5 o.rd) 0b0110011#7) o.bits17to7)
  | .p48Xor o =>
    .w48 (pack48 (encR 0b0000000#7 (lo5 o.rs2) (lo5 o.rs1) 0b100#3 (lo5 o.rd) 0b0110011#7) o.bits17to7)
  | .p48Srl o =>
    .w48 (pack48 (encR 0b0000000#7 (lo5 o.rs2) (lo5 o.rs1) 0b101#3 (lo5 o.rd) 0b0110011#7) o.bits17to7)
  | .p48Sra o =>
    .w48 (pack48 (encR 0b0100000#7 (lo5 o.rs2) (lo5 o.rs1) 0b101#3 (lo5 o.rd) 0b0110011#7) o.bits17to7)
  | .p48Or o =>
    .w48 (pack48 (encR 0b0000000#7 (lo5 o.rs2) (lo5 o.rs1) 0b110#3 (lo5 o.rd) 0b0110011#7) o.bits17to7)
  | .p48And o =>
    .w48 (pack48 (encR 0b0000000#7 (lo5 o.rs2) (lo5 o.rs1) 0b111#3 (lo5 o.rd) 0b0110011#7) o.bits17to7)
  | .p48Addw o =>
    .w48 (pack48 (encR 0b0000000#7 (lo5 o.rs2) (lo5 o.rs1) 0b000#3 (lo5 o.rd) 0b0111011#7) o.bits17to7)
  | .p48Subw o =>
    .w48 (pack48 (encR 0b0100000#7 (lo5 o.rs2) (lo5 o.rs1) 0b000#3 (lo5 o.rd) 0b0111011#7) o.bits17to7)
  | .p48Sllw o =>
    .w48 (pack48 (encR 0b0000000#7 (lo5 o.rs2) (lo5 o.rs1) 0b001#3 (lo5 o.rd) 0b0111011#7) o.bits17to7)
  | .p48Srlw o =>
    .w48 (pack48 (encR 0b0000000#7 (lo5 o.rs2) (lo5 o.rs1) 0b101#3 (lo5 o.rd) 0b0111011#7) o.bits17to7)
  | .p48Sraw o =>
    .w48 (pack48 (encR 0b0100000#7 (lo5 o.rs2) (lo5 o.rs1) 0b101#3 (lo5 o.rd) 0b0111011#7) o.bits17to7)
  | .p48Lb o imm => .w48 (pack48 (encI imm (lo5 o.rs1) 0b000#3 (lo5 o.rd) 0b0000011#7) o.bits17to7)
  | .p48Lh o imm => .w48 (pack48 (encI imm (lo5 o.rs1) 0b001#3 (lo5 o.rd) 0b0000011#7) o.bits17to7)
  | .p48Lw o imm => .w48 (pack48 (encI imm (lo5 o.rs1) 0b010#3 (lo5 o.rd) 0b0000011#7) o.bits17to7)
  | .p48Ld o imm => .w48 (pack48 (encI imm (lo5 o.rs1) 0b011#3 (lo5 o.rd) 0b0000011#7) o.bits17to7)
  | .p48Lbu o imm => .w48 (pack48 (encI imm (lo5 o.rs1) 0b100#3 (lo5 o.rd) 0b0000011#7) o.bits17to7)
  | .p48Lhu o imm => .w48 (pack48 (encI imm (lo5 o.rs1) 0b101#3 (lo5 o.rd) 0b0000011#7) o.bits17to7)
  | .p48Lwu o imm => .w48 (pack48 (encI imm (lo5 o.rs1) 0b110#3 (lo5 o.rd) 0b0000011#7) o.bits17to7)
  | .p48Sb o imm => .w48 (pack48 (encS imm (lo5 o.rs2) (lo5 o.rs1) 0b000#3 0b0100011#7) o.bits17to7)
  | .p48Sh o imm => .w48 (pack48 (encS imm (lo5 o.rs2) (lo5 o.rs1) 0b001#3 0b0100011#7) o.bits17to7)
  | .p48Sw o imm => .w48 (pack48 (encS imm (lo5 o.rs2) (lo5 o.rs1) 0b010#3 0b0100011#7) o.bits17to7)
  | .p48Sd o imm => .w48 (pack48 (encS imm (lo5 o.rs2) (lo5 o.rs1) 0b011#3 0b0100011#7) o.bits17to7)
  | .p64Lui o imm vltyp =>
    .w64 (pack64 (bit6 o.rd ++ 0#3) vltyp (encU imm (lo5 o.rd) 0b0110111#7) o.bits17to7)
  | .p64Auipc o imm vltyp =>
    .w64 (pack64 (bit6 o.rd ++ 0#3) vltyp (encU imm (lo5 o.rd) 0b0010111#7) o.bits17to7)
  | .p64Addi o imm vltyp =>
    .w64 (pack64 (bit6 o.rd ++ bit6 o.rs1 ++ 0#2) vltyp (encI imm (lo5 o.rs1) 0b000#3 (lo5 o.rd) 0b0010011#7) o.bits17to7)
  | .p64Slti o imm vltyp =>
    .w64 (pack64 (bit6 o.rd ++ bit6 o.rs1 ++ 0#2) vltyp (encI imm (lo5 o.rs1) 0b010#3 (lo5 o.rd) 0b0010011#7) o.bits17to7)
  | .p64Sltiu o imm vltyp =>
    .w64 (pack64 (bit6 o.rd ++ bit6 o.rs1 ++ 0#2) vltyp (encI imm (lo5 o.rs1) 0b011#3 (lo5 o.rd) 0b0010011#7) o.bits17to7)
  | .p64Xori o imm vltyp =>
    .w64 (pack64 (bit6 o.rd ++ bit6 o.rs1 ++ 0#2) vltyp (encI imm (lo5 o.rs1) 0b100#3 (lo5 o.rd) 0b0010011#7) o.bits17to7)
  | .p64Ori o imm vltyp =>
    .w64 (pack64 (bit6 o.rd ++ bit6 o.rs1 ++ 0#2) vltyp (encI imm (lo5 o.rs1) 0b110#3 (lo5 o.rd) 0b0010011#7) o.bits17to7)
  | .p64Andi o imm vltyp =>
    .w64 (pack64 (bit6 o.rd ++ bit6 o.rs1 ++ 0#2) vltyp (encI imm (lo5 o.rs1) 0b111#3 (lo5 o.rd) 0b0010011#7) o.bits17to7)
  | .p64Slli o shamt vltyp =>
    .w64 (pack64 (bit6 o.rd ++ bit6 o.rs1 ++ 0#2) vltyp (encI (0b000000#6 ++ shamt) (lo5 o.rs1) 0b001#3 (lo5 o.rd) 0b0010011#7) o.bits17to7)
  | .p64Srli o shamt vltyp =>
    .w64 (pack64 (bit6 o.rd ++ bit6 o.rs1 ++ 0#2) vltyp (encI (0b000000#6 ++ shamt) (lo5 o.rs1) 0b101#3 (lo5 o.rd) 0b0010011#7) o.bits17to7)
  | .p64Srai o shamt vltyp =>
    .w64 (pack64 (bit6 o.rd ++ bit6 o.rs1 ++ 0#2) vltyp (encI (0b010000#6 ++ shamt) (lo5 o.rs1) 0b101#3 (lo5 o.rd) 0b0010011#7) o.bits17to7)
  | .p64Addiw o imm vltyp =>
    .w64 (pack64 (bit6 o.rd ++ bit6 o.rs1 ++ 0#2) vltyp (encI imm (lo5 o.rs1) 0b000#3 (lo5 o.rd) 0b0011011#7) o.bits17to7)
  | .p64Slliw o shamt vltyp =>
    .w64 (pack64 (bit6 o.rd ++ bit6 o.rs1 ++ 0#2) vltyp (encI (0b0000000#7 ++ shamt) (lo5 o.rs1) 0b001#3 (lo5 o.rd) 0b0011011#7) o.bits17to7)
  | .p64Srliw o shamt vltyp =>
    .w64 (pack64 (bit6 o.rd ++ bit6 o.rs1 ++ 0#2) vltyp (encI (0b0000000#7 ++ shamt) (lo5 o.rs1) 0b101#3 (lo5 o.rd) 0b0011011#7) o.bits17to7)
  | .p64Sraiw o shamt vltyp =>
    .w64 (pack64 (bit6 o.rd ++ bit6 o.rs1 ++ 0#2) vltyp (encI (0b0100000#7 ++ shamt) (lo5 o.rs1) 0b101#3 (lo5 o.rd) 0b0011011#7) o.bits17to7)
  | .p64Add o vd vltyp =>
    .w64 (pack64 (bit6 o.rd ++ bit6 o.rs1 ++ bit6 o.rs2 ++ BitVec.ofBool vd) vltyp (encR 0b0000000#7 (lo5 o.rs2) (lo5 o.rs1) 0b000#3 (lo5 o.rd) 0b0110011#7) o.bits17to7)
  | .p64Sub o vd vltyp =>
    .w64 (pack64 (bit6 o.rd ++ bit6 o.rs1 ++ bit6 o.rs2 ++ BitVec.ofBool vd) vltyp (encR 0b0100000#7 (lo5 o.rs2) (lo5 o.rs1) 0b000#3 (lo5 o.rd) 0b0110011#7) o.bits17to7)
  | .p64Sll o vd vltyp =>
    .w64 (pack64 (bit6 o.rd ++ bit6 o.rs1 ++ bit6 o.rs2 ++ BitVec.ofBool vd) vltyp (encR 0b0000000#7 (lo5 o.rs2) (lo5 o.rs1) 0b001#3 (lo5 o.rd) 0b0110011#7) o.bits17to7)
  | .p64Slt o vd vltyp =>
    .w64 (pack64 (bit6 o.rd ++ bit6 o.rs1 ++ bit6 o.rs2 ++ BitVec.ofBool vd) vltyp (encR 0b0000000#7 (lo5 o.rs2) (lo5 o.rs1) 0b010#3 (lo5 o.rd) 0b0110011#7) o.bits17to7)
  | .p64Sltu o vd vltyp =>
    .w64 (pack64 (bit6 o.rd ++ bit6 o.rs1 ++ bit6 o.rs2 ++ BitVec.ofBool vd) vltyp (encR 0b0000000#7 (lo5 o.rs2) (lo5 o.rs1) 0b011#3 (lo5 o.rd) 0b0110011#7) o.bits17to7)
  | .p64Xor o vd vltyp =>
    .w64 (pack64 (bit6 o.rd ++ bit6 o.rs1 ++ bit6 o.rs2 ++ BitVec.ofBool vd) vltyp (encR 0b0000000#7 (lo5 o.rs2) (lo5 o.rs1) 0b100#3 (lo5 o.rd) 0b0110011#7) o.bits17to7)
  | .p64Srl o vd vltyp =>
    .w64 (pack64 (bit6 o.rd ++ bit6 o.rs1 ++ bit6 o.rs2 ++ BitVec.ofBool vd) vltyp (encR 0b0000000#7 (lo5 o.rs2) (lo5 o.rs1) 0b101#3 (lo5 o.rd) 0b0110011#7) o.bits17to7)
  | .p64Sra o vd vltyp =>
    .w64 (pack64 (bit6 o.rd ++ bit6 o.rs1 ++ bit6 o.rs2 ++ BitVec.ofBool vd) vltyp (encR 0b0100000#7 (lo5 o.rs2) (lo5 o.rs1) 0b101#3 (lo5 o.rd) 0b0110011#7) o.bits17to7)
  | .p64Or o vd vltyp =>
    .w64 (pack64 (bit6 o.rd ++ bit6 o.rs1 ++ bit6 o.rs2 ++ BitVec.ofBool vd) vltyp (encR 0b0000000#7 (lo5 o.rs2) (lo5 o.rs1) 0b110#3 (lo5 o.rd) 0b0110011#7) o.bits17to7)
  | .p64And o vd vltyp =>
    .w64 (pack64 (bit6 o.rd ++ bit6 o.rs1 ++ bit6 o.rs2 ++ BitVec.ofBool vd) vltyp (encR 0b0000000#7 (lo5 o.rs2) (lo5 o.rs1) 0b111#3 (lo5 o.rd) 0b0110011#7) o.bits17to7)
  | .p64Addw o vd vltyp =>
    .w64 (pack64 (bit6 o.rd ++ bit6 o.rs1 ++ bit6 o.rs2 ++ BitVec.ofBool vd) vltyp (encR 0b0000000#7 (lo5 o.rs2) (lo5 o.rs1) 0b000#3 (lo5 o.rd) 0b0111011#7) o.bits17to7)
  | .p64Subw o vd vltyp =>
    .w64 (pack64 (bit6 o.rd ++ bit6 o.rs1 ++ bit6 o.rs2 ++ BitVec.ofBool vd) vltyp (encR 0b0100000#7 (lo5 o.rs2) (lo5 o.rs1) 0b000#3 (lo5 o.rd) 0b0111011#7) o.bits17to7)
  | .p64Sllw o vd vltyp =>
    .w64 (pack64 (bit6 o.rd ++ bit6 o.rs1 ++ bit6 o.rs2 ++ BitVec.ofBool vd) vltyp (encR 0b0000000#7 (lo5 o.rs2) (lo5 o.rs1) 0b001#3 (lo5 o.rd) 0b0111011#7) o.bits17to7)
  | .p64Srlw o vd vltyp =>
    .w64 (pack64 (bit6 o.rd ++ bit6 o.rs1 ++ bit6 o.rs2 ++ BitVec.ofBool vd) vltyp (encR 0b0000000#7 (lo5 o.rs2) (lo5 o.rs1) 0b101#3 (lo5 o.rd) 0b0111011#7) o.bits17to7)
  | .p64Sraw o vd vltyp =>
    .w64 (pack64 (bit6 o.rd ++ bit6 o.rs1 ++ bit6 o.rs2 ++ BitVec.ofBool vd) vltyp (encR 0b0100000#7 (lo5 o.rs2) (lo5 o.rs1) 0b101#3 (lo5 o.rd) 0b0111011#7) o.bits17to7)
  | .p64Lb o imm vltyp =>
    .w64 (pack64 (bit6 o.rd ++ bit6 o.rs1 ++ 0#2) vltyp (encI imm (lo5 o.rs1) 0b000#3 (lo5 o.rd) 0b0000011#7) o.bits17to7)
  | .p64Lh o imm vltyp =>
    .w64 (pack64 (bit6 o.rd ++ bit6 o.rs1 ++ 0#2) vltyp (encI imm (lo5 o.rs1) 0b001#3 (lo5 o.rd) 0b0000011#7) o.bits17to7)
  | .p64Lw o imm vltyp =>
    .w64 (pack64 (bit6 o.rd ++ bit6 o.rs1 ++ 0#2) vltyp (encI imm (lo5 o.rs1) 0b010#3 (lo5 o.rd) 0b0000011#7) o.bits17to7)
  | .p64Ld o imm vltyp =>
    .w64 (pack64 (bit6 o.rd ++ bit6 o.rs1 ++ 0#2) vltyp (encI imm (lo5 o.rs1) 0b011#3 (lo5 o.rd) 0b0000011#7) o.bits17to7)
  | .p64Lbu o imm vltyp =>
    .w64 (pack64 (bit6 o.rd ++ bit6 o.rs1 ++ 0#2) vltyp (encI imm (lo5 o.rs1) 0b100#3 (lo5 o.rd) 0b0000011#7) o.bits17to7)
  | .p64Lhu o imm vltyp =>
    .w64 (pack64 (bit6 o.rd ++ bit6 o.rs1 ++ 0#2) vltyp (encI imm (lo5 o.rs1) 0b101#3 (lo5 o.rd) 0b0000011#7) o.bits17to7)
  | .p64Lwu o imm vltyp =>
    .w64 (pack64 (bit6 o.rd ++ bit6 o.rs1 ++ 0#2) vltyp (encI imm (lo5 o.rs1) 0b110#3 (lo5 o.rd) 0b0000011#7) o.bits17to7)
  | .p64Sb o imm vltyp =>
    .w64 (pack64 (0#1 ++ bit6 o.rs1 ++ bit6 o.rs2 ++ 0#1) vltyp (encS imm (lo5 o.rs2) (lo5 o.rs1) 0b000#3 0b0100011#7) o.bits17to7)
  | .p64Sh o imm vltyp =>
    .w64 (pack64 (0#1 ++ bit6 o.rs1 ++ bit6 o.rs2 ++ 0#1) vltyp (encS imm (lo5 o.rs2) (lo5 o.rs1) 0b001#3 0b0100011#7) o.bits17to7)
  | .p64Sw o imm vltyp =>
    .w64 (pack64 (0#1 ++ bit6 o.rs1 ++ bit6 o.rs2 ++ 0#1) vltyp (encS imm (lo5 o.rs2) (lo5 o.rs1) 0b010#3 0b0100011#7) o.bits17to7)
  | .p64Sd o imm vltyp =>
    .w64 (pack64 (0#1 ++ bit6 o.rs1 ++ bit6 o.rs2 ++ 0#1) vltyp (encS imm (lo5 o.rs2) (lo5 o.rs1) 0b011#3 0b0100011#7) o.bits17to7)
  | .p48LoadFp o width imm =>
    .w48 (pack48 (encI imm (lo5 o.rs1) width (lo5 o.rd) 0b0000111#7) o.bits17to7)
  | .p48StoreFp o width imm =>
    .w48 (pack48 (encS imm (lo5 o.rs2) (lo5 o.rs1) width 0b0100111#7) o.bits17to7)
  | .p48OpFp o => .w48 (pack48 o.base o.bits17to7)
  | .p48Madd o => .w48 (pack48 (o.base 0b1000011#7) o.bits17to7)
  | .p48Msub o => .w48 (pack48 (o.base 0b1000111#7) o.bits17to7)
  | .p48Nmsub o => .w48 (pack48 (o.base 0b1001011#7) o.bits17to7)
  | .p48Nmadd o => .w48 (pack48 (o.base 0b1001111#7) o.bits17to7)
  | .p64LoadFp o width imm vltyp =>
    .w64 (pack64 (bit6 o.rd ++ bit6 o.rs1 ++ 0#2) vltyp (encI imm (lo5 o.rs1) width (lo5 o.rd) 0b0000111#7) o.bits17to7)
  | .p64StoreFp o width imm vltyp =>
    .w64 (pack64 (0#1 ++ bit6 o.rs1 ++ bit6 o.rs2 ++ 0#1) vltyp (encS imm (lo5 o.rs2) (lo5 o.rs1) width 0b0100111#7) o.bits17to7)
  | .p64OpFp o vd vltyp =>
    .w64 (pack64 (bit6 o.rd ++ bit6 o.rs1 ++ bit6 o.rs2 ++ BitVec.ofBool vd) vltyp (o.base) o.bits17to7)
  | .p64Madd o vltyp =>
    .w64 (pack64 (bit6 o.rd ++ bit6 o.rs1 ++ bit6 o.rs2 ++ bit6 o.rs3) vltyp (o.base 0b1000011#7) o.bits17to7)
  | .p64Msub o vltyp =>
    .w64 (pack64 (bit6 o.rd ++ bit6 o.rs1 ++ bit6 o.rs2 ++ bit6 o.rs3) vltyp (o.base 0b1000111#7) o.bits17to7)
  | .p64Nmsub o vltyp =>
    .w64 (pack64 (bit6 o.rd ++ bit6 o.rs1 ++ bit6 o.rs2 ++ bit6 o.rs3) vltyp (o.base 0b1001011#7) o.bits17to7)
  | .p64Nmadd o vltyp =>
    .w64 (pack64 (bit6 o.rd ++ bit6 o.rs1 ++ bit6 o.rs2 ++ bit6 o.rs3) vltyp (o.base 0b1001111#7) o.bits17to7)

/-- Length of an instruction in bytes (R26). -/
def Instr.ilen (i : Instr) : Nat := (encode i).ilen

/-- The word of an instruction zero-extended to 64 bits: the trap value of IllegalInstruction (R341). -/
def Instr.word (i : Instr) : Word := (encode i).toWord

/-- The bytes of an instruction in address order (R50). -/
def Instr.bytes (i : Instr) : List Byte := bytesOf i.ilen i.word

end Sys2Proof
end

