-- ==== Sys2Proof/Machine/State.lean ====
section
/-!
DEFINITION. The state of the hart as plain data (10_state.md), the exceptions (60_exceptions.md R350), the
reasons a step can stop the model, and the state after reset (70_reset_and_hazards.md R382).
-/

namespace Sys2Proof.Machine

/-- The exceptions of R350, in the order of their codes. -/
inductive Cause where
  /-- code 0: listed and never raised (R343) -/
  | instructionAddressMisaligned
  /-- code 1: a parcel outside `MemMap` (R342) -/
  | instructionAccessFault
  /-- code 2 (R341) -/
  | illegalInstruction
  /-- code 3: EBREAK (R349) -/
  | breakpoint
  /-- code 4 (R344) -/
  | loadAddressMisaligned
  /-- code 5 (R344) -/
  | loadAccessFault
  /-- code 6 (R344) -/
  | storeAddressMisaligned
  /-- code 7 (R344) -/
  | storeAccessFault
  /-- code 8: ECALL (R349) -/
  | environmentCall
deriving DecidableEq, Repr

/-- The trap record: cause and trap value (R346). -/
structure TrapRecord where
  cause : Cause
  tval : Word
deriving DecidableEq, Repr

/-- The contents of memory: (address, byte) pairs with strictly rising addresses. An address that is not
listed holds no value: nothing has placed or written it (R381, log 3). -/
abbrev Memory := List Host.Cell

/-- The machine state. `platform` and `stored` are the model's own fields (log 2, log 5). -/
structure State where
  /-- x0 to x127 (R20); entry 0 stays 0 and is never read (R21). -/
  x : Vector Word 128
  /-- the byte address of the instruction being executed (R25). -/
  pc : Word
  /-- SVPSTATE, the layout of R30. -/
  svpstate : BitVec 32
  /-- f0 to f127, the low FLEN bits of each entry, only when `HAS_F` (R39). -/
  f : Vector Quad 128
  /-- fcsr, only when `HAS_F` (R39, log 11). -/
  fcsr : BitVec 32
  /-- the bytes of memory that hold a value (R40, R381). -/
  mem : Memory
  /-- the addresses of the bytes the program has stored to, strictly rising (R62). -/
  stored : List Nat
  /-- the trap record, empty until the first raise (R346); the hart is stopped when it is not (R347). -/
  trap : Option TrapRecord
  /-- the parameters of R6 and R8; no step changes them. -/
  platform : Platform
deriving DecidableEq, Repr

/-- Why the model stops. These are not exceptions of the hardware: an exception is a next state whose trap
record is set (R345 to R347). -/
inductive Fault where
  /-- Raised by a load or a fetch that reads a backed byte which nothing has placed or written: the spec
  makes that a fault of the model (R381). SAFE: the hardware goes on with some value. -/
  | unwrittenByte (address : Nat)
  /-- Raised by a step of a hart that has trapped: "the hart makes no further step" (R347, U26 of
  93_implementation_defined.md). SAFE: the spec gives the stopped hart no step. -/
  | stopped
deriving DecidableEq, Repr

/-- What the model declines to give a meaning. -/
inductive Refusal where
  /-- Raised by an arm of `exec` that has no meaning yet. SAFE. -/
  | notModelled (mnemonic : String)
  /-- Raised by a fetch from a byte the program has stored to: the effect is unspecified and the spec makes
  a model refuse it (R62, R342). SAFE. -/
  | fetchOfStoredByte (address : Nat)
  /-- Raised by a fetch that runs past address 2^64 - 1: the spec gives it no meaning (R26, R342). SAFE. -/
  | fetchWraps
  /-- Raised by a fetch at an odd pc, which only a launch at an odd `RESET_PC` gives: the spec makes a model
  refuse that launch (R380). SAFE. -/
  | oddPc
deriving DecidableEq, Repr

/-- The state after reset on a platform (R382): SVPSTATE 0, the trap record empty, the pc at `RESET_PC`,
memory with nothing placed. The spec gives x1 to x127, f0 to f127 and fcsr no value; they are 0 here,
DESIGN CHOICE (log 1, log 9). -/
def State.resetOn (p : Platform) : State where
  x := Vector.replicate 128 0#64
  pc := p.resetPc
  svpstate := 0#32
  f := Vector.replicate 128 0#128
  fcsr := 0#32
  mem := []
  stored := []
  trap := none
  platform := p

/-- The machine right after reset, on the sample platform (log 2). -/
def State.reset : State := State.resetOn Platform.sample

end Sys2Proof.Machine
end

