-- ==== Sys2Proof/Machine/Ops.lean ====
section
/-!
DEFINITION. The operations every meaning shares: register and memory access (10_state.md R20 to R22,
20_memory.md R50 to R54), the fields of SVPSTATE (R30) and the write that R36 guards, raising an exception
(60_exceptions.md R345 to R347) and the advance of the pc (R26). There is no return from an exception: the
hart stops at the first raise (R347, R348).
-/

namespace Sys2Proof.Machine

/-- What a meaning answers. -/
abbrev Result := Host.Outcome State Fault Refusal

/-! ### Bits -/

/-- `old` with its `w` bits from bit `lo` upward replaced by `v`. -/
def putBits {n w : Nat} (old : BitVec n) (lo : Nat) (v : BitVec w) : BitVec n :=
  (old &&& ~~~((BitVec.allOnes w).setWidth n <<< lo)) ||| (v.setWidth n <<< lo)

/-! ### Registers -/

/-- `x[n]` (R10): x0 reads as zero (R21). -/
def State.getX (s : State) (n : Reg) : Word :=
  if n = 0#7 then 0#64 else s.x[n.toNat]'n.isLt

/-- `x[n] <- v` (R10): a write to x0 is discarded (R21). -/
def State.setX (s : State) (n : Reg) (v : Word) : State :=
  if n = 0#7 then s else { s with x := s.x.set n.toNat v n.isLt }

/-- The register a 5-bit field names: x0 to x31 (R22). -/
def reg5 (r : BitVec 5) : Reg := r.setWidth 7

/-- `f[n]` (R39), FLEN bits in the low end of a 128-bit entry; none is hardwired. -/
def State.getF (s : State) (n : Reg) : Quad := s.f[n.toNat]'n.isLt

/-- `f[n] <- v` (R39). -/
def State.setF (s : State) (n : Reg) (v : Quad) : State := { s with f := s.f.set n.toNat v n.isLt }

/-! ### The fields of SVPSTATE (R30) -/

/-- SVPSTATE.maxvl, bits 5:0. -/
def State.maxvl (s : State) : BitVec 6 := s.svpstate.extractLsb' 0 6

/-- SVPSTATE.vl, bits 11:6. -/
def State.vl (s : State) : BitVec 6 := s.svpstate.extractLsb' 6 6

/-- SVPSTATE.srcoffs, bits 17:12. -/
def State.srcoffs (s : State) : BitVec 6 := s.svpstate.extractLsb' 12 6

/-- SVPSTATE.destoffs, bits 23:18. -/
def State.destoffs (s : State) : BitVec 6 := s.svpstate.extractLsb' 18 6

/-- SVPSTATE.subvl, bits 25:24. -/
def State.subvl (s : State) : BitVec 2 := s.svpstate.extractLsb' 24 2

/-- SVPSTATE.dsvoffs, bits 27:26. -/
def State.dsvoffs (s : State) : BitVec 2 := s.svpstate.extractLsb' 26 2

/-- SVPSTATE.rsvd, bits 31:28. -/
def State.svpRsvd (s : State) : BitVec 4 := s.svpstate.extractLsb' 28 4

/-- `s` with another SVPSTATE. -/
def State.withSvpstate (s : State) (v : BitVec 32) : State := { s with svpstate := v }

/-- SVPSTATE.maxvl = v. -/
def State.setMaxvl (s : State) (v : BitVec 6) : State := s.withSvpstate (putBits s.svpstate 0 v)

/-- SVPSTATE.vl = v. -/
def State.setVl (s : State) (v : BitVec 6) : State := s.withSvpstate (putBits s.svpstate 6 v)

/-- SVPSTATE.srcoffs = v. -/
def State.setSrcoffs (s : State) (v : BitVec 6) : State := s.withSvpstate (putBits s.svpstate 12 v)

/-- SVPSTATE.destoffs = v. -/
def State.setDestoffs (s : State) (v : BitVec 6) : State := s.withSvpstate (putBits s.svpstate 18 v)

/-- SVPSTATE.subvl = v. -/
def State.setSubvl (s : State) (v : BitVec 2) : State := s.withSvpstate (putBits s.svpstate 24 v)

/-- SVPSTATE.dsvoffs = v. -/
def State.setDsvoffs (s : State) (v : BitVec 2) : State := s.withSvpstate (putBits s.svpstate 26 v)

/-- The bits of a CSR write that are unsupported (R36): 63:28 always, 23:0 without VLtyp, 27:24 without
svlen. -/
def unsupportedBits (p : Platform) : Word :=
  0xFFFFFFFFF0000000#64 ||| (if p.vltypSupported then 0#64 else 0x0000000000FFFFFF#64) |||
    (if p.svlenSupported then 0#64 else 0x000000000F000000#64)

/-! ### The pc -/

/-- The pc after an instruction of `n` bytes that does not transfer control (R26), modulo 2^64. -/
def State.advance (s : State) (n : Nat) : State := { s with pc := s.pc + BitVec.ofNat 64 n }

/-- `pc <- t`. -/
def State.jump (s : State) (t : Word) : State := { s with pc := t }

/-! ### Exceptions -/

/-- Taking an exception, the one operation every raise goes through (R345 to R347): the trap record is set,
the pc still holds the address of the raising instruction, and nothing else changes. -/
def State.takeTrap (s : State) (cause : Cause) (tval : Word) : State :=
  { s with trap := some ⟨cause, tval⟩ }

/-- Why an operation inside a meaning ends early: an exception of the hardware, or a stop of the model. -/
inductive Stop where
  /-- `raise E(info)` (R345) -/
  | raise (cause : Cause) (tval : Word)
  /-- a fault of the model, not of the hardware (R381) -/
  | stuck (fault : Fault)
deriving DecidableEq, Repr

/-- An early end at state `s`: what was done before the raise stays (R345). -/
def stopAt (s : State) : Stop → Result
  | .raise cause tval => .next (s.takeTrap cause tval)
  | .stuck fault => .fault fault

/-- IllegalInstruction with the instruction word as trap value (R341). -/
def illegal (word : Word) (s : State) : Result := .next (s.takeTrap .illegalInstruction word)

/-! ### Memory -/

/-- The byte at an address, none where nothing has placed or written one (R381). -/
def Memory.read : Memory → Nat → Option Byte
  | [], _ => none
  | (b, v) :: rest, a => if a = b then some v else Memory.read rest a

/-- Memory with one byte replaced, addresses kept strictly rising. -/
def Memory.write : Memory → Nat → Byte → Memory
  | [], a, v => [(a, v)]
  | (b, w) :: rest, a, v =>
    if a < b then (a, v) :: (b, w) :: rest
    else if a = b then (a, v) :: rest
    else (b, w) :: Memory.write rest a v

/-- Numbers that are strictly rising. -/
def rising : List Nat → Bool
  | [] => true
  | [_] => true
  | a :: b :: rest => decide (a < b) && rising (b :: rest)

/-- The canonical form of memory: addresses strictly rising. An unlisted address reads as no value, so no
entry can equal what an unlisted address reads as. -/
def Memory.wf (m : Memory) : Bool := rising (m.map Prod.fst)

/-- A strictly rising list of addresses with one more address in it. -/
def insertAddr : List Nat → Nat → List Nat
  | [], a => [a]
  | b :: rest, a => if a < b then a :: b :: rest else if a = b then b :: rest else b :: insertAddr rest a

/-- A byte address that `MemMap` backs (R57); addresses end at 2^64 - 1 (R40). -/
def backed (p : Platform) (a : Nat) : Bool :=
  decide (a < 2 ^ 64) && p.memMap.any (fun r => decide (r.base ≤ a) && decide (a < r.base + r.size))

/-- The `n` bytes from `a` upward are all backed. -/
def backedRange (p : Platform) (a : Nat) : Nat → Bool
  | 0 => true
  | n + 1 => backed p a && backedRange p (a + 1) n

/-- The little-endian value of `n` bytes from `a` upward (R51); a byte without a value stops the model
(R381). -/
def readLE (m : Memory) (a : Nat) : Nat → Except Stop Quad
  | 0 => .ok 0#128
  | n + 1 =>
    match Memory.read m a with
    | none => .error (.stuck (.unwrittenByte a))
    | some b =>
      match readLE m (a + 1) n with
      | .error e => .error e
      | .ok high => .ok ((high <<< 8) ||| b.setWidth 128)

/-- Memory with the low `n` bytes of `v` stored from `a` upward, little-endian (R51). -/
def writeLE (m : Memory) (a : Nat) : Nat → Quad → Memory
  | 0, _ => m
  | n + 1, v => writeLE (Memory.write m a (v.setWidth 8)) (a + 1) n (v >>> 8)

/-- The addresses of `n` bytes from `a` upward added to the addresses stored to (R62). -/
def markStored (l : List Nat) (a : Nat) : Nat → List Nat
  | 0 => l
  | n + 1 => markStored (insertAddr l a) (a + 1) n

/-- `MemRead(a, n)` (R53): misalignment is checked first, then the map. -/
def memRead (s : State) (a : Word) (n : Nat) : Except Stop Quad :=
  if a.toNat % n ≠ 0 then .error (.raise .loadAddressMisaligned a)
  else if backedRange s.platform a.toNat n = false then .error (.raise .loadAccessFault a)
  else readLE s.mem a.toNat n

/-- The state after `n` bytes of `v` are stored at `a`, without the checks of R54. -/
def State.store (s : State) (a : Word) (n : Nat) (v : Quad) : State :=
  { s with mem := writeLE s.mem a.toNat n v, stored := markStored s.stored a.toNat n }

/-- `MemWrite(a, n, v)` (R54); no byte is written when it raises. -/
def memWrite (s : State) (a : Word) (n : Nat) (v : Quad) : Except Stop State :=
  if a.toNat % n ≠ 0 then .error (.raise .storeAddressMisaligned a)
  else if backedRange s.platform a.toNat n = false then .error (.raise .storeAccessFault a)
  else .ok (s.store a n v)

end Sys2Proof.Machine
end

