-- ==== Sys2Proof/Machine/Operands.lean ====
section
/-!
DEFINITION. Operand forms of prefixed instructions: start registers (41_vector_context.md R204, 30_encoding.md
R92, R93), flat indices (R202), the place of an element in a register file (R205, R206), element reads and
writes (R207, R208), and the extension of an element by its Signedness (R209, 30_encoding.md R105).
-/

namespace Sys2Proof.Machine

/-- XLEN (R8). -/
abbrev xlen : Nat := 64

/-- A register operand: its start register and its flag, S (false) or V (true). -/
structure Operand where
  reg : Reg
  vec : Bool
deriving DecidableEq, Repr

/-- The operand of a 6-bit field (R204, R92): S is zero-extended, V is mapped to an even register. -/
def operand48 (r : BitVec 6) (vec : Bool) : Operand :=
  if vec then ⟨r.extractLsb' 0 1 ++ r.extractLsb' 1 5 ++ 0#1, true⟩ else ⟨r.setWidth 7, false⟩

/-- The operand of a 7-bit field (R204, R93): the number itself. -/
def operand64 (r : BitVec 7) (vec : Bool) : Operand := ⟨r, vec⟩

/-- Flat index of element `sub` of sub-vector `i` of an operand (R202), the factor `flag(o)` of R216. -/
def flatIndex (vec : Bool) (svl i sub : Nat) : Nat := (if vec then i * svl else 0) + sub

/-- Number of the register that holds element `k` of width `w` of an operand that starts at `n`, in a file
of `len`-bit registers (R205). -/
def elemReg (len : Nat) (n : Reg) (k w : Nat) : Nat := n.toNat + k * w / len

/-- Lowest bit of that element within its register (R206). -/
def elemLo (len k w : Nat) : Nat := k * w % len

/-- The element lies within the 128 registers (R205). -/
def inFile (len : Nat) (n : Reg) (k w : Nat) : Bool := decide (elemReg len n k w < 128)

/-- `elem_rd(n, k, w)` of the x file (R207), for an element that is `inFile`. -/
def elemRd (s : State) (n : Reg) (k w : Nat) : BitVec w :=
  (s.getX (BitVec.ofNat 7 (elemReg xlen n k w))).extractLsb' (elemLo xlen k w) w

/-- `elem_wr(n, k, w, v)` of the x file (R208), for an element that is `inFile`. -/
def elemWr (s : State) (n : Reg) (k : Nat) {w : Nat} (v : BitVec w) : State :=
  let g := BitVec.ofNat 7 (elemReg xlen n k w)
  s.setX g (putBits (s.getX g) (elemLo xlen k w) v)

/-- `elem_rd` of the f file (R39, R283). -/
def felemRd (s : State) (n : Reg) (k w : Nat) : BitVec w :=
  (s.getF (BitVec.ofNat 7 (elemReg s.platform.flen.bits n k w))).extractLsb' (elemLo s.platform.flen.bits k w) w

/-- `elem_wr` of the f file (R39, R285): neighbouring elements stay, and there is no NaN-boxing. -/
def felemWr (s : State) (n : Reg) (k : Nat) {w : Nat} (v : BitVec w) : State :=
  let g := BitVec.ofNat 7 (elemReg s.platform.flen.bits n k w)
  s.setF g (putBits (s.getF g) (elemLo s.platform.flen.bits k w) v)

/-- What the Signedness Decision Procedure yields (R104): OP and OP-IMM are Unsigned, OP-32 and OP-IMM-32
Signed (R105). -/
inductive Signedness where
  | unsigned
  | signed
deriving DecidableEq, Repr

/-- `ext` of R209: an element widened to XLEN. -/
def extend {w : Nat} (sg : Signedness) (v : BitVec w) : Word :=
  match sg with
  | .unsigned => v.setWidth 64
  | .signed => v.signExtend 64

/-- The extension a load makes of the `mb` bytes it read (R165 to R171). -/
def loadExtend (mb : Nat) (sg : Signedness) (m : Quad) : Word := extend sg (m.setWidth (8 * mb))

end Sys2Proof.Machine
end

