-- ==== Sys2Proof/Machine/Alu.lean ====
section
/-!
DEFINITION. The functions `fn` of the integer computational instructions (40_base_scalar.md R134 to R164), on
XLEN-bit operands. An unprefixed instruction applies its function to whole registers, its prefixed forms
apply it element by element (41_vector_context.md R209).
-/

namespace Sys2Proof.Machine

/-- immI and immS (R132). -/
def immI (imm : BitVec 12) : Word := imm.signExtend 64

/-- immU (R132). -/
def immU (imm : BitVec 20) : Word := (imm ++ 0#12).signExtend 64

/-- A truth value as the 64-bit result 0 or 1 (R138). -/
def boolWord (b : Bool) : Word := if b then 1#64 else 0#64

/-- The low word of an operand (R134). -/
def low32 (a : Word) : BitVec 32 := a.setWidth 32

/-- A 32-bit result sign-extended to 64 bits (R134). -/
def sext32 (r : BitVec 32) : Word := r.signExtend 64

/-- LUI (R135). -/
def fnLui (imm : BitVec 20) : Word := immU imm

/-- AUIPC (R136). -/
def fnAuipc (pc : Word) (imm : BitVec 20) : Word := pc + immU imm

/-- ADDI (R137). -/
def fnAddi (imm : BitVec 12) (a : Word) : Word := a + immI imm

/-- SLTI (R138). -/
def fnSlti (imm : BitVec 12) (a : Word) : Word := boolWord (a.slt (immI imm))

/-- SLTIU (R139): the immediate is sign-extended, then compared as unsigned. -/
def fnSltiu (imm : BitVec 12) (a : Word) : Word := boolWord (a.ult (immI imm))

/-- XORI (R140). -/
def fnXori (imm : BitVec 12) (a : Word) : Word := a ^^^ immI imm

/-- ORI (R141). -/
def fnOri (imm : BitVec 12) (a : Word) : Word := a ||| immI imm

/-- ANDI (R142). -/
def fnAndi (imm : BitVec 12) (a : Word) : Word := a &&& immI imm

/-- SLLI (R143). -/
def fnSlli (shamt : BitVec 6) (a : Word) : Word := a <<< shamt.toNat

/-- SRLI (R144). -/
def fnSrli (shamt : BitVec 6) (a : Word) : Word := a >>> shamt.toNat

/-- SRAI (R145). -/
def fnSrai (shamt : BitVec 6) (a : Word) : Word := a.sshiftRight shamt.toNat

/-- ADDIW (R146). -/
def fnAddiw (imm : BitVec 12) (a : Word) : Word := sext32 (low32 (a + immI imm))

/-- SLLIW (R147). -/
def fnSlliw (shamt : BitVec 5) (a : Word) : Word := sext32 (low32 a <<< shamt.toNat)

/-- SRLIW (R148). -/
def fnSrliw (shamt : BitVec 5) (a : Word) : Word := sext32 (low32 a >>> shamt.toNat)

/-- SRAIW (R149). -/
def fnSraiw (shamt : BitVec 5) (a : Word) : Word := sext32 ((low32 a).sshiftRight shamt.toNat)

/-- b[5:0], the shift amount of a 64-bit register shift (R134). -/
def amount6 (b : Word) : Nat := (b.extractLsb' 0 6).toNat

/-- b[4:0], the shift amount of a W register shift (R134). -/
def amount5 (b : Word) : Nat := (b.extractLsb' 0 5).toNat

/-- ADD (R150). -/
def fnAdd (a b : Word) : Word := a + b

/-- SUB (R151). -/
def fnSub (a b : Word) : Word := a - b

/-- SLL (R152). -/
def fnSll (a b : Word) : Word := a <<< amount6 b

/-- SLT (R153). -/
def fnSlt (a b : Word) : Word := boolWord (a.slt b)

/-- SLTU (R154). -/
def fnSltu (a b : Word) : Word := boolWord (a.ult b)

/-- XOR (R155). -/
def fnXor (a b : Word) : Word := a ^^^ b

/-- SRL (R156). -/
def fnSrl (a b : Word) : Word := a >>> amount6 b

/-- SRA (R157). -/
def fnSra (a b : Word) : Word := a.sshiftRight (amount6 b)

/-- OR (R158). -/
def fnOr (a b : Word) : Word := a ||| b

/-- AND (R159). -/
def fnAnd (a b : Word) : Word := a &&& b

/-- ADDW (R160). -/
def fnAddw (a b : Word) : Word := sext32 (low32 (a + b))

/-- SUBW (R161). -/
def fnSubw (a b : Word) : Word := sext32 (low32 (a - b))

/-- SLLW (R162). -/
def fnSllw (a b : Word) : Word := sext32 (low32 a <<< amount5 b)

/-- SRLW (R163). -/
def fnSrlw (a b : Word) : Word := sext32 (low32 a >>> amount5 b)

/-- SRAW (R164). -/
def fnSraw (a b : Word) : Word := sext32 ((low32 a).sshiftRight (amount5 b))

end Sys2Proof.Machine
end

