-- ==== Sys2Proof/Machine/BaseInteger.lean ====
section
/-!
DEFINITION. The unprefixed integer computational instructions (40_base_scalar.md R135 to R164): each writes `x[rd]` and
advances the pc by 4. None raises.
-/

namespace Sys2Proof.Machine

/-- `x[rd] <- v`, pc + 4. -/
def writeRd (rd : BitVec 5) (v : Word) (s : State) : Result := .next ((s.setX (reg5 rd) v).advance 4)

/-- `x[rd] <- fn(x[rs1])`, the immediate being part of `fn` (R137 to R149). -/
def baseImm (fn : Word → Word) (rd rs1 : BitVec 5) (s : State) : Result :=
  writeRd rd (fn (s.getX (reg5 rs1))) s

/-- `x[rd] <- fn(x[rs1], x[rs2])` (R150 to R164). -/
def baseReg (fn : Word → Word → Word) (rd rs1 rs2 : BitVec 5) (s : State) : Result :=
  writeRd rd (fn (s.getX (reg5 rs1)) (s.getX (reg5 rs2))) s

/-- `lui` (R135). -/
def execLui (rd : BitVec 5) (imm : BitVec 20) (s : State) : Result := writeRd rd (fnLui imm) s

/-- `auipc` (R136). -/
def execAuipc (rd : BitVec 5) (imm : BitVec 20) (s : State) : Result := writeRd rd (fnAuipc s.pc imm) s

/-- `addi` (R137). -/
def execAddi (rd rs1 : BitVec 5) (imm : BitVec 12) (s : State) : Result := baseImm (fnAddi imm) rd rs1 s

/-- `slti` (R138). -/
def execSlti (rd rs1 : BitVec 5) (imm : BitVec 12) (s : State) : Result := baseImm (fnSlti imm) rd rs1 s

/-- `sltiu` (R139). -/
def execSltiu (rd rs1 : BitVec 5) (imm : BitVec 12) (s : State) : Result := baseImm (fnSltiu imm) rd rs1 s

/-- `xori` (R140). -/
def execXori (rd rs1 : BitVec 5) (imm : BitVec 12) (s : State) : Result := baseImm (fnXori imm) rd rs1 s

/-- `ori` (R141). -/
def execOri (rd rs1 : BitVec 5) (imm : BitVec 12) (s : State) : Result := baseImm (fnOri imm) rd rs1 s

/-- `andi` (R142). -/
def execAndi (rd rs1 : BitVec 5) (imm : BitVec 12) (s : State) : Result := baseImm (fnAndi imm) rd rs1 s

/-- `addiw` (R146). -/
def execAddiw (rd rs1 : BitVec 5) (imm : BitVec 12) (s : State) : Result := baseImm (fnAddiw imm) rd rs1 s

/-- `slli` (R143). -/
def execSlli (rd rs1 : BitVec 5) (shamt : BitVec 6) (s : State) : Result := baseImm (fnSlli shamt) rd rs1 s

/-- `srli` (R144). -/
def execSrli (rd rs1 : BitVec 5) (shamt : BitVec 6) (s : State) : Result := baseImm (fnSrli shamt) rd rs1 s

/-- `srai` (R145). -/
def execSrai (rd rs1 : BitVec 5) (shamt : BitVec 6) (s : State) : Result := baseImm (fnSrai shamt) rd rs1 s

/-- `slliw` (R147). -/
def execSlliw (rd rs1 : BitVec 5) (shamt : BitVec 5) (s : State) : Result := baseImm (fnSlliw shamt) rd rs1 s

/-- `srliw` (R148). -/
def execSrliw (rd rs1 : BitVec 5) (shamt : BitVec 5) (s : State) : Result := baseImm (fnSrliw shamt) rd rs1 s

/-- `sraiw` (R149). -/
def execSraiw (rd rs1 : BitVec 5) (shamt : BitVec 5) (s : State) : Result := baseImm (fnSraiw shamt) rd rs1 s

/-- `add` (R150). -/
def execAdd (rd rs1 rs2 : BitVec 5) (s : State) : Result := baseReg fnAdd rd rs1 rs2 s

/-- `sub` (R151). -/
def execSub (rd rs1 rs2 : BitVec 5) (s : State) : Result := baseReg fnSub rd rs1 rs2 s

/-- `sll` (R152). -/
def execSll (rd rs1 rs2 : BitVec 5) (s : State) : Result := baseReg fnSll rd rs1 rs2 s

/-- `slt` (R153). -/
def execSlt (rd rs1 rs2 : BitVec 5) (s : State) : Result := baseReg fnSlt rd rs1 rs2 s

/-- `sltu` (R154). -/
def execSltu (rd rs1 rs2 : BitVec 5) (s : State) : Result := baseReg fnSltu rd rs1 rs2 s

/-- `xor` (R155). -/
def execXor (rd rs1 rs2 : BitVec 5) (s : State) : Result := baseReg fnXor rd rs1 rs2 s

/-- `srl` (R156). -/
def execSrl (rd rs1 rs2 : BitVec 5) (s : State) : Result := baseReg fnSrl rd rs1 rs2 s

/-- `sra` (R157). -/
def execSra (rd rs1 rs2 : BitVec 5) (s : State) : Result := baseReg fnSra rd rs1 rs2 s

/-- `or` (R158). -/
def execOr (rd rs1 rs2 : BitVec 5) (s : State) : Result := baseReg fnOr rd rs1 rs2 s

/-- `and` (R159). -/
def execAnd (rd rs1 rs2 : BitVec 5) (s : State) : Result := baseReg fnAnd rd rs1 rs2 s

/-- `addw` (R160). -/
def execAddw (rd rs1 rs2 : BitVec 5) (s : State) : Result := baseReg fnAddw rd rs1 rs2 s

/-- `subw` (R161). -/
def execSubw (rd rs1 rs2 : BitVec 5) (s : State) : Result := baseReg fnSubw rd rs1 rs2 s

/-- `sllw` (R162). -/
def execSllw (rd rs1 rs2 : BitVec 5) (s : State) : Result := baseReg fnSllw rd rs1 rs2 s

/-- `srlw` (R163). -/
def execSrlw (rd rs1 rs2 : BitVec 5) (s : State) : Result := baseReg fnSrlw rd rs1 rs2 s

/-- `sraw` (R164). -/
def execSraw (rd rs1 rs2 : BitVec 5) (s : State) : Result := baseReg fnSraw rd rs1 rs2 s

end Sys2Proof.Machine
end

