-- ==== Sys2Proof/Machine/BaseMemory.lean ====
section
/-!
DEFINITION. The unprefixed loads and stores (40_base_scalar.md R165 to R175). The base register is not modified; on an
exception rd is not written and the pc is not advanced.
-/

namespace Sys2Proof.Machine

/-- A load of `mb` bytes (R165 to R171): `ea = x[rs1] + immI`. -/
def baseLoad (mb : Nat) (sg : Signedness) (rd rs1 : BitVec 5) (imm : BitVec 12) (s : State) : Result :=
  match memRead s (s.getX (reg5 rs1) + immI imm) mb with
  | .error e => stopAt s e
  | .ok m => .next ((s.setX (reg5 rd) (loadExtend mb sg m)).advance 4)

/-- A store of the low `mb` bytes of `x[rs2]` (R172 to R175): `ea = x[rs1] + immS`. -/
def baseStore (mb : Nat) (rs1 rs2 : BitVec 5) (imm : BitVec 12) (s : State) : Result :=
  match memWrite s (s.getX (reg5 rs1) + immI imm) mb ((s.getX (reg5 rs2)).setWidth 128) with
  | .error e => stopAt s e
  | .ok s' => .next (s'.advance 4)

/-- `lb` (R165). -/
def execLb (rd rs1 : BitVec 5) (imm : BitVec 12) (s : State) : Result := baseLoad 1 .signed rd rs1 imm s

/-- `lh` (R166). -/
def execLh (rd rs1 : BitVec 5) (imm : BitVec 12) (s : State) : Result := baseLoad 2 .signed rd rs1 imm s

/-- `lw` (R167). -/
def execLw (rd rs1 : BitVec 5) (imm : BitVec 12) (s : State) : Result := baseLoad 4 .signed rd rs1 imm s

/-- `ld` (R168). -/
def execLd (rd rs1 : BitVec 5) (imm : BitVec 12) (s : State) : Result := baseLoad 8 .unsigned rd rs1 imm s

/-- `lbu` (R169). -/
def execLbu (rd rs1 : BitVec 5) (imm : BitVec 12) (s : State) : Result := baseLoad 1 .unsigned rd rs1 imm s

/-- `lhu` (R170). -/
def execLhu (rd rs1 : BitVec 5) (imm : BitVec 12) (s : State) : Result := baseLoad 2 .unsigned rd rs1 imm s

/-- `lwu` (R171). -/
def execLwu (rd rs1 : BitVec 5) (imm : BitVec 12) (s : State) : Result := baseLoad 4 .unsigned rd rs1 imm s

/-- `sb` (R172). -/
def execSb (rs1 rs2 : BitVec 5) (imm : BitVec 12) (s : State) : Result := baseStore 1 rs1 rs2 imm s

/-- `sh` (R173). -/
def execSh (rs1 rs2 : BitVec 5) (imm : BitVec 12) (s : State) : Result := baseStore 2 rs1 rs2 imm s

/-- `sw` (R174). -/
def execSw (rs1 rs2 : BitVec 5) (imm : BitVec 12) (s : State) : Result := baseStore 4 rs1 rs2 imm s

/-- `sd` (R175). -/
def execSd (rs1 rs2 : BitVec 5) (imm : BitVec 12) (s : State) : Result := baseStore 8 rs1 rs2 imm s

end Sys2Proof.Machine
end

