-- ==== Sys2Proof/Machine/Control.lean ====
section
/-!
DEFINITION. Control transfer (40_base_scalar.md R176 to R183). There are no delay slots, and no transfer raises.
-/

namespace Sys2Proof.Machine

/-- A conditional branch (R178 to R183): `pc <- pc + immB` when taken, else pc + 4. -/
def branch (taken : Bool) (offset : BitVec 13) (s : State) : Result :=
  .next (if taken then s.jump (s.pc + offset.signExtend 64) else s.advance 4)

/-- `jal` (R176). -/
def execJal (rd : BitVec 5) (offset : BitVec 21) (s : State) : Result :=
  .next ((s.setX (reg5 rd) (s.pc + 4#64)).jump (s.pc + offset.signExtend 64))

/-- `jalr` (R177): the target comes from the old `x[rs1]`, its bit 0 cleared. -/
def execJalr (rd rs1 : BitVec 5) (imm : BitVec 12) (s : State) : Result :=
  .next ((s.setX (reg5 rd) (s.pc + 4#64)).jump ((s.getX (reg5 rs1) + immI imm) &&& ~~~1#64))

/-- `beq` (R178). -/
def execBeq (rs1 rs2 : BitVec 5) (offset : BitVec 13) (s : State) : Result :=
  branch (s.getX (reg5 rs1) == s.getX (reg5 rs2)) offset s

/-- `bne` (R179). -/
def execBne (rs1 rs2 : BitVec 5) (offset : BitVec 13) (s : State) : Result :=
  branch (s.getX (reg5 rs1) != s.getX (reg5 rs2)) offset s

/-- `blt` (R180). -/
def execBlt (rs1 rs2 : BitVec 5) (offset : BitVec 13) (s : State) : Result :=
  branch ((s.getX (reg5 rs1)).slt (s.getX (reg5 rs2))) offset s

/-- `bge` (R181). -/
def execBge (rs1 rs2 : BitVec 5) (offset : BitVec 13) (s : State) : Result :=
  branch (!(s.getX (reg5 rs1)).slt (s.getX (reg5 rs2))) offset s

/-- `bltu` (R182). -/
def execBltu (rs1 rs2 : BitVec 5) (offset : BitVec 13) (s : State) : Result :=
  branch ((s.getX (reg5 rs1)).ult (s.getX (reg5 rs2))) offset s

/-- `bgeu` (R183). -/
def execBgeu (rs1 rs2 : BitVec 5) (offset : BitVec 13) (s : State) : Result :=
  branch (!(s.getX (reg5 rs1)).ult (s.getX (reg5 rs2))) offset s

end Sys2Proof.Machine
end

