-- ==== Sys2Proof/Machine/Flags.lean ====
section
/-!
DEFINITION. The hardware has no flags and no condition codes (10_state.md R38). This file holds what stands
in their place: predicates, which are bit masks in x9, x10 and x11 (41_vector_context.md R210, R211; 30_encoding.md
R96, R97), and the accrued exception flags of fcsr on a platform with floating point (44_p48_float.md R284).
-/

namespace Sys2Proof.Machine

/-- A predicate with its snapshot (R211): none, a mask read as it stands, or a mask read inverted. -/
inductive Mask where
  | always
  | onSet (value : Word)
  | onClear (value : Word)
deriving DecidableEq, Repr

/-- `active(i)` (R210). -/
def Mask.active : Mask → Nat → Bool
  | .always, _ => true
  | .onSet v, i => v.getLsbD i
  | .onClear v, i => !v.getLsbD i

/-- The snapshot of a pred field (R96, R211). -/
def predMask (s : State) : Pred → Mask
  | .none => .always
  | .notX9 => .onClear (s.getX 9#7)
  | .x9 => .onSet (s.getX 9#7)
  | .notX10 => .onClear (s.getX 10#7)
  | .x10 => .onSet (s.getX 10#7)
  | .notX11 => .onClear (s.getX 11#7)
  | .x11 => .onSet (s.getX 11#7)

/-- The source side of a tpred field (R97): x9 or none. -/
def sourceMask (s : State) : TPred → Mask
  | .none => .always
  | .x9Off => .onSet (s.getX 9#7)
  | .offX10 => .always
  | .x9X10 => .onSet (s.getX 9#7)
  | .tbd => .always
  | .notX9Off => .onClear (s.getX 9#7)
  | .offNotX10 => .always
  | .notX9NotX10 => .onClear (s.getX 9#7)

/-- The destination side of a tpred field (R97): x10 or none. -/
def destMask (s : State) : TPred → Mask
  | .none => .always
  | .x9Off => .always
  | .offX10 => .onSet (s.getX 10#7)
  | .x9X10 => .onSet (s.getX 10#7)
  | .tbd => .always
  | .notX9Off => .always
  | .offNotX10 => .onClear (s.getX 10#7)
  | .notX9NotX10 => .onClear (s.getX 10#7)

/-- The dynamic rounding mode, bits 7:5 of fcsr (log 11). -/
def State.frm (s : State) : BitVec 3 := s.fcsr.extractLsb' 5 3

/-- The flags an element raises, accumulated by bitwise or into bits 4:0 of fcsr (R284, log 11). -/
def State.accrue (s : State) (flags : BitVec 5) : State := { s with fcsr := s.fcsr ||| flags.setWidth 32 }

end Sys2Proof.Machine
end

