-- ==== Sys2Proof/Machine/Vector.lean ====
section
/-!
DEFINITION. What every prefixed instruction shares: the checks that come before any state changes
(00_scope.md R7, 45_p64_vltyp.md R306), the application of VLtyp (R303 to R309), the order of the steps of one
instruction (41_vector_context.md R223), the two hardware loops (R216, R217) with what an exception inside
them leaves (R219), and the element operations of the integer formats (R209) and of loads and stores
(42_p48_load_store.md R241 to R243).
-/

namespace Sys2Proof.Machine

/-- What the loop of one prefixed instruction needs beside its operands: the word and its length, and the
two fields that select the context (R200, R201). A P48 instruction has the default VLtyp (R200). -/
structure Form where
  word : Word
  ilen : Nat
  svlen : Svlen
  vltyp : VLtyp
deriving DecidableEq, Repr

/-- The form of a P48 instruction (R26, R200). -/
def form48 (i : Instr) (svlen : Svlen) : Form := ⟨i.word, 6, svlen, .default⟩

/-- The form of a P64 instruction (R26, R300). -/
def form64 (i : Instr) (svlen : Svlen) (vltyp : VLtyp) : Form := ⟨i.word, 8, svlen, vltyp⟩

/-- `ctxVL` (R200). -/
def Form.ctxVL (fm : Form) : Bool := fm.vltyp != .default

/-- `ctxSV` (R201). -/
def Form.ctxSV (fm : Form) : Bool := fm.svlen != .subvl

/-- svl (R201). -/
def Form.svl (fm : Form) : Nat := fm.svlen.length

/-- The static checks that depend on the platform (R7), and the one the VLtyp type still admits (R306). -/
def Form.legal (fm : Form) (p : Platform) : Bool :=
  (p.vltypSupported || !fm.ctxVL) && (p.svlenSupported || !fm.ctxSV) &&
    (match fm.vltyp with
     | .default => true
     | .vlImm _ _ => true
     | .vlReg _ f => f != 0#5
     | .mvlVl _ _ => true
     | .mvl _ _ => true)

/-! ### VLtyp -/

/-- An immediate field F means F + 1 (R302): 1 to 32. -/
def vlImmediate (f : BitVec 5) : BitVec 6 := f.setWidth 6 + 1#6

/-- The smaller of two unsigned 6-bit values (R10). -/
def min6 (a b : BitVec 6) : BitVec 6 := if a.ult b then a else b

/-- `min(x[F], MAXVL)`, the comparison unsigned on the full 64-bit register (R305). -/
def minWord6 (a : Word) (b : BitVec 6) : BitVec 6 := if a.ult (b.setWidth 64) then a.setWidth 6 else b

/-- `if VLdest != 0: x[VLdest] <- zext_64(SVPSTATE.vl)` (R309). -/
def writeVLdest (dest : BitVec 5) (s : State) : State := s.setX (reg5 dest) (s.vl.setWidth 64)

/-- VLtyp applied (R303). -/
def applyVLtyp (v : VLtyp) (s : State) : State :=
  match v with
  | .default => s
  | .vlImm dest f => writeVLdest dest (s.setVl (min6 (vlImmediate f) s.maxvl))
  | .vlReg dest f => writeVLdest dest (s.setVl (minWord6 (s.getX (reg5 f)) s.maxvl))
  | .mvlVl dest f => writeVLdest dest ((s.setMaxvl (vlImmediate f)).setVl (vlImmediate f))
  | .mvl dest f => writeVLdest dest ((s.setMaxvl (vlImmediate f)).setVl (min6 s.vl (vlImmediate f)))

/-- The svlen field copied to SVPSTATE.subvl when it is not 00 (R34, R223 step 3). -/
def writeSubvl (sv : Svlen) (s : State) : State :=
  match sv with
  | .subvl => s
  | .two => s.setSubvl 0b01#2
  | .three => s.setSubvl 0b10#2
  | .four => s.setSubvl 0b11#2

/-- Steps 2 and 3 of R223. -/
def beginPrefixed (fm : Form) (s : State) : State := writeSubvl fm.svlen (applyVLtyp fm.vltyp s)

/-! ### Loop positions -/

/-- VLe (R200). -/
def Form.vle (fm : Form) (s : State) : Nat := if fm.ctxVL then s.vl.toNat else 1

/-- The source index a loop starts from (R216, R217). -/
def Form.firstSrc (fm : Form) (s : State) : Nat := if fm.ctxVL then s.srcoffs.toNat else 0

/-- The destination index the twin-predicated loop starts from (R217). -/
def Form.firstDest (fm : Form) (s : State) : Nat := if fm.ctxVL then s.destoffs.toNat else 0

/-- The sub-element the first executed sub-vector starts from (R216, R217). -/
def Form.firstSub (fm : Form) (s : State) : Nat := if fm.ctxSV then s.dsvoffs.toNat else 0

/-- SVPSTATE.srcoffs = i when ctxVL. -/
def Form.setSrc (fm : Form) (i : Nat) (s : State) : State :=
  if fm.ctxVL then s.setSrcoffs (BitVec.ofNat 6 i) else s

/-- SVPSTATE.destoffs = j when ctxVL. -/
def Form.setDest (fm : Form) (j : Nat) (s : State) : State :=
  if fm.ctxVL then s.setDestoffs (BitVec.ofNat 6 j) else s

/-- SVPSTATE.dsvoffs = sub when ctxSV. -/
def Form.setSub (fm : Form) (sub : Nat) (s : State) : State :=
  if fm.ctxSV then s.setDsvoffs (BitVec.ofNat 2 sub) else s

/-- The position of a single-predicated loop recorded before an element (R216). -/
def Form.markSingle (fm : Form) (i sub : Nat) (s : State) : State := fm.setSub sub (fm.setSrc i s)

/-- The position of a twin-predicated loop recorded before an element (R217). -/
def Form.markTwin (fm : Form) (i j sub : Nat) (s : State) : State :=
  fm.setSub sub (fm.setDest j (fm.setSrc i s))

/-! ### The loops -/

/-- What a loop answers: the state after it, or where it stopped and why. The state of a stop holds the
position of the raising element and every earlier element's effect (R219). -/
abbrev LoopResult := Except (State × Stop) State

/-- An element operation at sub-element `sub`: all of its effect, or none (R219). -/
abbrev ElementOp := Nat → State → Except Stop State

/-- `for s = s0 to svl - 1` of R216 and R217; `fuel` is the number of sub-elements left. -/
def subLoop (mark : Nat → State → State) (op : ElementOp) : (fuel sub : Nat) → State → LoopResult
  | 0, _, s => .ok s
  | fuel + 1, sub, s =>
    match op sub (mark sub s) with
    | .error e => .error (mark sub s, e)
    | .ok s' => subLoop mark op fuel (sub + 1) s'

/-- The `while` of R216. `fuel` is VLe - i; `body i s0` is the sub-vector at index i from sub-element s0. -/
def singleLoop (active : Nat → Bool) (destVec : Bool) (body : (i s0 : Nat) → State → LoopResult) :
    (fuel i s0 : Nat) → State → LoopResult
  | 0, _, _, s => .ok s
  | fuel + 1, i, s0, s =>
    if active i then
      match body i s0 s with
      | .error e => .error e
      | .ok s' => if destVec then singleLoop active destVec body fuel (i + 1) 0 s' else .ok s'
    else singleLoop active destVec body fuel (i + 1) s0 s

/-- `while i < VLe and not active(i): i = i + 1` of R217; `fuel` is VLe - i. -/
def nextActive (active : Nat → Bool) : (fuel i : Nat) → Nat
  | 0, i => i
  | fuel + 1, i => if active i then i else nextActive active fuel (i + 1)

/-- The `loop` of R217. `fuel` is VLe - j: every pass but the last moves j on. -/
def twinLoop (vle : Nat) (activeS activeD : Nat → Bool) (sv dv : Bool)
    (body : (i j s0 : Nat) → State → LoopResult) : (fuel i j s0 : Nat) → State → LoopResult
  | 0, _, _, _, s => .ok s
  | fuel + 1, i, j, s0, s =>
    let i' := nextActive activeS (vle - i) i
    let j' := nextActive activeD (vle - j) j
    if vle ≤ i' ∨ vle ≤ j' then .ok s
    else
      match body i' j' s0 s with
      | .error e => .error e
      | .ok s' =>
        if dv then twinLoop vle activeS activeD sv dv body fuel (if sv then i' + 1 else i') (j' + 1) 0 s'
        else .ok s'

/-! ### One prefixed instruction (R223) -/

/-- Steps 1 to 6 of R223 around a loop that zeroes the indices it used. `ok` is the check that the format
itself adds to those of `Form.legal`. -/
def runPrefixed (fm : Form) (ok : Bool) (loop : State → LoopResult) (s : State) : Result :=
  if fm.legal s.platform && ok then
    match loop (beginPrefixed fm s) with
    | .error (s', stop) => stopAt s' stop
    | .ok s' => .next (s'.advance fm.ilen)
  else illegal fm.word s

/-- Steps 4 to 6 of R223 with the single-predicated loop (R216); `op i` is the element operation at index
i. -/
def runSingle (fm : Form) (pred : Pred) (destVec : Bool) (op : Nat → ElementOp) (s : State) : LoopResult :=
  match singleLoop (predMask s pred).active destVec
      (fun i s0 => subLoop (fm.markSingle i) (op i) (fm.svl - s0) s0)
      (fm.vle s - fm.firstSrc s) (fm.firstSrc s) (fm.firstSub s) s with
  | .error e => .error e
  | .ok s' => .ok (fm.markSingle 0 0 s')

/-- Steps 4 to 6 of R223 with the twin-predicated loop (R217); `op i j` is the element operation at source
index i and destination index j. -/
def runTwin (fm : Form) (tpred : TPred) (sv dv : Bool) (op : Nat → Nat → ElementOp) (s : State) :
    LoopResult :=
  match twinLoop (fm.vle s) (sourceMask s tpred).active (destMask s tpred).active sv dv
      (fun i j s0 => subLoop (fm.markTwin i j) (op i j) (fm.svl - s0) s0)
      (fm.vle s - fm.firstDest s) (fm.firstSrc s) (fm.firstDest s) (fm.firstSub s) s with
  | .error e => .error e
  | .ok s' => .ok (fm.markTwin 0 0 0 s')

/-! ### Element operations of the integer formats (R209, R261, R263, R266) -/

/-- IllegalInstruction raised by an element (R205). -/
def Form.raiseIllegal (fm : Form) : Except Stop State := .error (.raise .illegalInstruction fm.word)

/-- The element operation of P48-R and P64-R (R209, R261). The range checks of R205 come first (R351). -/
def elementR (fm : Form) (w : Nat) (sg : Signedness) (fn : Word → Word → Word) (rd rs1 rs2 : Operand)
    (i sub : Nat) (s : State) : Except Stop State :=
  let kd := flatIndex rd.vec fm.svl i sub
  let k1 := flatIndex rs1.vec fm.svl i sub
  let k2 := flatIndex rs2.vec fm.svl i sub
  if inFile xlen rd.reg kd w && inFile xlen rs1.reg k1 w && inFile xlen rs2.reg k2 w then
    let a := extend sg (elemRd s rs1.reg k1 w)
    let b := extend sg (elemRd s rs2.reg k2 w)
    .ok (elemWr s rd.reg kd ((fn a b).setWidth w))
  else fm.raiseIllegal

/-- The element operation of P48-I and P64-I (R263). -/
def elementI (fm : Form) (w : Nat) (sg : Signedness) (fn : Word → Word) (rd rs1 : Operand)
    (i j sub : Nat) (s : State) : Except Stop State :=
  let kd := flatIndex rd.vec fm.svl j sub
  let ks := flatIndex rs1.vec fm.svl i sub
  if inFile xlen rd.reg kd w && inFile xlen rs1.reg ks w then
    .ok (elemWr s rd.reg kd ((fn (extend sg (elemRd s rs1.reg ks w))).setWidth w))
  else fm.raiseIllegal

/-- The element operation of P48-U and P64-U (R266): every element receives the same value. -/
def elementU (fm : Form) (w : Nat) (value : Word) (rd : Operand) (i sub : Nat) (s : State) :
    Except Stop State :=
  let kd := flatIndex rd.vec fm.svl i sub
  if inFile xlen rd.reg kd w then .ok (elemWr s rd.reg kd (value.setWidth w)) else fm.raiseIllegal

/-! ### Loads and stores -/

/-- The address operand's element lies within the registers (R205, R242): a V operand is an array of 64-bit
addresses, one per sub-vector. -/
def addressInFile (rs1 : Operand) (m : Nat) : Bool := !rs1.vec || inFile xlen rs1.reg m 64

/-- The effective address of sub-element `sub` at memory-side index `m` (R242); `memVec` is the memory
side's flag. -/
def effectiveAddress (s : State) (rs1 : Operand) (imm : Word) (memVec : Bool) (mb svl m sub : Nat) : Word :=
  if rs1.vec then elemRd s rs1.reg m 64 + imm + BitVec.ofNat 64 (sub * mb)
  else s.getX rs1.reg + imm + BitVec.ofNat 64 (flatIndex memVec svl m sub * mb)

/-- The element operation of a prefixed load (R243); `memVec` is the memory side's flag sv (R241). -/
def elementLoad (fm : Form) (mb : Nat) (sg : Signedness) (w : Nat) (rd rs1 : Operand) (imm : Word)
    (memVec : Bool) (i j sub : Nat) (s : State) : Except Stop State :=
  let kd := flatIndex rd.vec fm.svl j sub
  if inFile xlen rd.reg kd w && addressInFile rs1 i then
    match memRead s (effectiveAddress s rs1 imm memVec mb fm.svl i sub) mb with
    | .error e => .error e
    | .ok m => .ok (elemWr s rd.reg kd ((loadExtend mb sg m).setWidth w))
  else fm.raiseIllegal

/-- The element operation of a prefixed store (R243): the element is zero-extended and its low 8 * mb bits
are written; `memVec` is the memory side's flag dv (R241). -/
def elementStore (fm : Form) (mb w : Nat) (rs2 rs1 : Operand) (imm : Word) (memVec : Bool)
    (i j sub : Nat) (s : State) : Except Stop State :=
  let ks := flatIndex rs2.vec fm.svl i sub
  if inFile xlen rs2.reg ks w && addressInFile rs1 j then
    memWrite s (effectiveAddress s rs1 imm memVec mb fm.svl j sub) mb ((elemRd s rs2.reg ks w).setWidth 128)
  else fm.raiseIllegal

end Sys2Proof.Machine
end

