-- ==== Sys2Proof/Machine/Float.lean ====
section
/-!
DEFINITION. The prefixed floating-point classes (44_p48_float.md) and the unprefixed floating-point words
(40_base_scalar.md R193). Without `HAS_F`, which is the specified hardware, every one of them raises
IllegalInstruction (R280). With `HAS_F` the wrapping is as R281 to R292 give it, an unprefixed word is one scalar
element, and the arithmetic is the opaque `Config.fpOp` (R284).
-/

namespace Sys2Proof.Machine

/-- The register file an operand of a floating-point instruction lives in (R285). -/
inductive RegFile where
  | x
  | f
deriving DecidableEq, Repr

/-- The file and the element width of an operand (R283). -/
structure ElemType where
  file : RegFile
  width : Nat
deriving DecidableEq, Repr

/-- An integer operand of a floating-point instruction: an XLEN-bit element of the x file (R283). -/
def intElem : ElemType := ⟨.x, 64⟩

/-- Width in bits of the format a 2-bit code names (R283, R281). -/
def fmtWidth (fmt : BitVec 2) : Nat :=
  if fmt = 0b00#2 then 32 else if fmt = 0b01#2 then 64 else if fmt = 0b10#2 then 16 else 128

/-- A floating-point operand of a format (R283). -/
def fpElem (fmt : BitVec 2) : ElemType := ⟨.f, fmtWidth fmt⟩

/-- An element of the format fits the f registers (log 24). -/
def ElemType.fits (t : ElemType) (p : Platform) : Bool :=
  match t.file with
  | .x => true
  | .f => decide (t.width ≤ p.flen.bits)

/-- The element lies within its register file (R205, R292). -/
def elemInFile (s : State) (t : ElemType) (n : Reg) (k : Nat) : Bool :=
  match t.file with
  | .x => inFile xlen n k t.width
  | .f => inFile s.platform.flen.bits n k t.width

/-- An element as a bit pattern (R284). -/
def readElem (s : State) (t : ElemType) (n : Reg) (k : Nat) : Quad :=
  match t.file with
  | .x => (elemRd s n k t.width).setWidth 128
  | .f => (felemRd s n k t.width).setWidth 128

/-- A result's bit pattern written at the width of its element (R285). -/
def writeElem (s : State) (t : ElemType) (n : Reg) (k : Nat) (v : Quad) : State :=
  match t.file with
  | .x => elemWr s n k (v.setWidth t.width)
  | .f => felemWr s n k (v.setWidth t.width)

/-- The operands of an OP-FP instruction: destination, first source, and second source if it has one. -/
structure FpShape where
  dest : ElemType
  src1 : ElemType
  src2 : Option ElemType
deriving DecidableEq, Repr

/-- The OP-FP instructions and their operands; none for a word that is no instruction. PRESUMED (log 12):
the spec names the classes only, this list is that of the RISC-V F, D, Q and Zfh extensions. -/
def opFpShape (fmt : BitVec 2) (funct5 : BitVec 5) (rm : BitVec 3) (rs2 : BitVec 5) : Option FpShape :=
  let t := fpElem fmt
  match funct5.toNat with
  | 0b00000 => some ⟨t, t, some t⟩  -- FADD
  | 0b00001 => some ⟨t, t, some t⟩  -- FSUB
  | 0b00010 => some ⟨t, t, some t⟩  -- FMUL
  | 0b00011 => some ⟨t, t, some t⟩  -- FDIV
  | 0b01011 => if rs2 = 0#5 then some ⟨t, t, none⟩ else none  -- FSQRT
  | 0b00100 => if rm.toNat < 3 then some ⟨t, t, some t⟩ else none  -- FSGNJ, FSGNJN, FSGNJX
  | 0b00101 => if rm.toNat < 2 then some ⟨t, t, some t⟩ else none  -- FMIN, FMAX
  | 0b01000 =>  -- FCVT from the format that rs2 names
    if rs2.toNat < 4 ∧ rs2.setWidth 2 ≠ fmt then some ⟨t, fpElem (rs2.setWidth 2), none⟩ else none
  | 0b10100 => if rm.toNat < 3 then some ⟨intElem, t, some t⟩ else none  -- FLE, FLT, FEQ
  | 0b11000 => if rs2.toNat < 4 then some ⟨intElem, t, none⟩ else none  -- FCVT to an integer
  | 0b11010 => if rs2.toNat < 4 then some ⟨t, intElem, none⟩ else none  -- FCVT from an integer
  | 0b11100 =>  -- FMV.X (no quad form), FCLASS
    if rs2 = 0#5 ∧ ((rm = 0#3 ∧ fmt ≠ 0b11#2) ∨ rm = 1#3) then some ⟨intElem, t, none⟩ else none
  | 0b11110 => if rs2 = 0#5 ∧ rm = 0#3 ∧ fmt ≠ 0b11#2 then some ⟨t, intElem, none⟩ else none  -- FMV from x
  | _ => none

/-- Every operand of the instruction fits its file. -/
def FpShape.fits (sh : FpShape) (p : Platform) : Bool :=
  sh.dest.fits p && sh.src1.fits p &&
    (match sh.src2 with
     | none => true
     | some t => t.fits p)

/-- A result written and its flags accumulated (R284, R285). -/
def fpFinish (s : State) (base : BitVec 32) (t : ElemType) (rd : Reg) (k : Nat) (srcs : List Quad) : State :=
  let r := Config.fpOp base s.frm srcs
  (writeElem s t rd k r.1).accrue r.2

/-- The element operation of P48-FR and P64-FR (R285). A single-source instruction does not index rs2. -/
def elementFR (fm : Form) (base : BitVec 32) (sh : FpShape) (rd rs1 rs2 : Operand) (i sub : Nat)
    (s : State) : Except Stop State :=
  let kd := flatIndex rd.vec fm.svl i sub
  let k1 := flatIndex rs1.vec fm.svl i sub
  let k2 := flatIndex rs2.vec fm.svl i sub
  match sh.src2 with
  | none =>
    if elemInFile s sh.dest rd.reg kd && elemInFile s sh.src1 rs1.reg k1 then
      .ok (fpFinish s base sh.dest rd.reg kd [readElem s sh.src1 rs1.reg k1])
    else fm.raiseIllegal
  | some t2 =>
    if elemInFile s sh.dest rd.reg kd && elemInFile s sh.src1 rs1.reg k1 && elemInFile s t2 rs2.reg k2 then
      .ok (fpFinish s base sh.dest rd.reg kd [readElem s sh.src1 rs1.reg k1, readElem s t2 rs2.reg k2])
    else fm.raiseIllegal

/-- The element operation of P48-FR4 and P64-FR4 (R289), all operands in the f file at the width of fmt. -/
def elementFR4 (fm : Form) (base : BitVec 32) (t : ElemType) (rd rs1 rs2 rs3 : Operand) (i sub : Nat)
    (s : State) : Except Stop State :=
  let kd := flatIndex rd.vec fm.svl i sub
  let k1 := flatIndex rs1.vec fm.svl i sub
  let k2 := flatIndex rs2.vec fm.svl i sub
  let k3 := flatIndex rs3.vec fm.svl i sub
  if elemInFile s t rd.reg kd && elemInFile s t rs1.reg k1 && elemInFile s t rs2.reg k2 &&
      elemInFile s t rs3.reg k3 then
    .ok (fpFinish s base t rd.reg kd [readElem s t rs1.reg k1, readElem s t rs2.reg k2, readElem s t rs3.reg k3])
  else fm.raiseIllegal

/-- OP-FP with its operands resolved (R285). -/
def runOpFp (fm : Form) (base : BitVec 32) (shape : Option FpShape) (pred : Pred) (rd rs1 rs2 : Operand)
    (s : State) : Result :=
  match shape with
  | none => illegal fm.word s
  | some sh =>
    runPrefixed fm (s.platform.hasF && sh.fits s.platform)
      (runSingle fm pred rd.vec (elementFR fm base sh rd rs1 rs2)) s

/-- A fused multiply-add with its operands resolved (R289). -/
def runFusedMul (fm : Form) (base : BitVec 32) (fmt : BitVec 2) (pred : Pred) (rd rs1 rs2 rs3 : Operand)
    (s : State) : Result :=
  runPrefixed fm (s.platform.hasF && (fpElem fmt).fits s.platform)
    (runSingle fm pred rd.vec (elementFR4 fm base (fpElem fmt) rd rs1 rs2 rs3)) s

/-- OP-FP in P48-FR form: vd is vs1 or vs2 (R285, R91). -/
def prefixedFR48 (i : Instr) (o : FROps 6) (s : State) : Result :=
  let vd := o.vs1 || o.vs2
  runOpFp (form48 i o.svlen) o.base (opFpShape o.fmt o.funct5 o.rm (lo5 o.rs2)) o.pred (operand48 o.rd vd)
    (operand48 o.rs1 o.vs1) (operand48 o.rs2 o.vs2) s

/-- OP-FP in P64-FR form: vd is bit 60 (R285, R84). -/
def prefixedFR64 (i : Instr) (o : FROps 7) (vd : Bool) (vltyp : VLtyp) (s : State) : Result :=
  runOpFp (form64 i o.svlen vltyp) o.base (opFpShape o.fmt o.funct5 o.rm (lo5 o.rs2)) o.pred
    (operand64 o.rd vd) (operand64 o.rs1 o.vs1) (operand64 o.rs2 o.vs2) s

/-- A fused multiply-add in P48-FR4 form: vd and vs1 are vs2 or vs3 (R289). -/
def prefixedFR448 (i : Instr) (opcode : BitVec 7) (o : FR4Ops 6) (s : State) : Result :=
  let v := o.vs2 || o.vs3
  runFusedMul (form48 i o.svlen) (o.base opcode) o.fmt o.pred (operand48 o.rd v) (operand48 o.rs1 v)
    (operand48 o.rs2 o.vs2) (operand48 o.rs3 o.vs3) s

/-- A fused multiply-add in P64-FR4 form: vd and vs1 are vs2 or vs3 here too (R289, R84). -/
def prefixedFR464 (i : Instr) (opcode : BitVec 7) (o : FR4Ops 7) (vltyp : VLtyp) (s : State) : Result :=
  let v := o.vs2 || o.vs3
  runFusedMul (form64 i o.svlen vltyp) (o.base opcode) o.fmt o.pred (operand64 o.rd v) (operand64 o.rs1 v)
    (operand64 o.rs2 o.vs2) (operand64 o.rs3 o.vs3) s

/-! ### Floating-point loads and stores (R286) -/

/-- Access size in bytes by the width field (R286); none for the codes it gives no size. -/
def fpAccessSize (width : BitVec 3) : Option Nat :=
  match width.toNat with
  | 0b001 => some 2
  | 0b010 => some 4
  | 0b011 => some 8
  | 0b100 => some 16
  | _ => none

/-- The element operation of a floating-point load (R286): the bits move unchanged. -/
def elementLoadFp (fm : Form) (mb : Nat) (rd rs1 : Operand) (imm : Word) (memVec : Bool) (i j sub : Nat)
    (s : State) : Except Stop State :=
  let kd := flatIndex rd.vec fm.svl j sub
  if inFile s.platform.flen.bits rd.reg kd (8 * mb) && addressInFile rs1 i then
    match memRead s (effectiveAddress s rs1 imm memVec mb fm.svl i sub) mb with
    | .error e => .error e
    | .ok m => .ok (felemWr s rd.reg kd (m.setWidth (8 * mb)))
  else fm.raiseIllegal

/-- The element operation of a floating-point store (R286). -/
def elementStoreFp (fm : Form) (mb : Nat) (rs2 rs1 : Operand) (imm : Word) (memVec : Bool) (i j sub : Nat)
    (s : State) : Except Stop State :=
  let ks := flatIndex rs2.vec fm.svl i sub
  if inFile s.platform.flen.bits rs2.reg ks (8 * mb) && addressInFile rs1 j then
    memWrite s (effectiveAddress s rs1 imm memVec mb fm.svl j sub) mb
      ((felemRd s rs2.reg ks (8 * mb)).setWidth 128)
  else fm.raiseIllegal

/-- The checks of a floating-point load or store (R280, R286): itype must be 00. -/
def fpMemLegal (p : Platform) (mb : Nat) (ew : Ew) : Bool :=
  p.hasF && ew == .e64 && decide (8 * mb ≤ p.flen.bits)

/-- LOAD-FP with its operands resolved (R286). -/
def runLoadFp (fm : Form) (width : BitVec 3) (ew : Ew) (tpred : TPred) (rd rs1 : Operand) (imm : BitVec 12)
    (s : State) : Result :=
  match fpAccessSize width with
  | none => illegal fm.word s
  | some mb =>
    runPrefixed fm (fpMemLegal s.platform mb ew)
      (runTwin fm tpred (rd.vec || rs1.vec) rd.vec
        (elementLoadFp fm mb rd rs1 (immI imm) (rd.vec || rs1.vec))) s

/-- STORE-FP with its operands resolved (R286). -/
def runStoreFp (fm : Form) (width : BitVec 3) (ew : Ew) (tpred : TPred) (rs2 rs1 : Operand)
    (imm : BitVec 12) (s : State) : Result :=
  match fpAccessSize width with
  | none => illegal fm.word s
  | some mb =>
    runPrefixed fm (fpMemLegal s.platform mb ew)
      (runTwin fm tpred rs2.vec (rs2.vec || rs1.vec)
        (elementStoreFp fm mb rs2 rs1 (immI imm) (rs2.vec || rs1.vec))) s

/-- `p48.` LOAD-FP class (R286). -/
def execP48LoadFp (o : IOps 6) (width : BitVec 3) (imm : BitVec 12) (s : State) : Result :=
  runLoadFp (form48 (.p48LoadFp o width imm) o.svlen) width o.ew o.tpred (operand48 o.rd o.vd)
    (operand48 o.rs1 o.vs1) imm s

/-- `p48.` STORE-FP class (R286). -/
def execP48StoreFp (o : SOps 6) (width : BitVec 3) (imm : BitVec 12) (s : State) : Result :=
  runStoreFp (form48 (.p48StoreFp o width imm) o.svlen) width o.ew o.tpred (operand48 o.rs2 o.vs2)
    (operand48 o.rs1 o.vs1) imm s

/-- `p48.` OP-FP class (R285). -/
def execP48OpFp (o : FROps 6) (s : State) : Result := prefixedFR48 (.p48OpFp o) o s

/-- `p48.` MADD class (R289). -/
def execP48Madd (o : FR4Ops 6) (s : State) : Result := prefixedFR448 (.p48Madd o) 0b1000011#7 o s

/-- `p48.` MSUB class (R289). -/
def execP48Msub (o : FR4Ops 6) (s : State) : Result := prefixedFR448 (.p48Msub o) 0b1000111#7 o s

/-- `p48.` NMSUB class (R289). -/
def execP48Nmsub (o : FR4Ops 6) (s : State) : Result := prefixedFR448 (.p48Nmsub o) 0b1001011#7 o s

/-- `p48.` NMADD class (R289). -/
def execP48Nmadd (o : FR4Ops 6) (s : State) : Result := prefixedFR448 (.p48Nmadd o) 0b1001111#7 o s

/-- `p64.` LOAD-FP class (R286). -/
def execP64LoadFp (o : IOps 7) (width : BitVec 3) (imm : BitVec 12) (vltyp : VLtyp) (s : State) : Result :=
  runLoadFp (form64 (.p64LoadFp o width imm vltyp) o.svlen vltyp) width o.ew o.tpred (operand64 o.rd o.vd)
    (operand64 o.rs1 o.vs1) imm s

/-- `p64.` STORE-FP class (R286). -/
def execP64StoreFp (o : SOps 7) (width : BitVec 3) (imm : BitVec 12) (vltyp : VLtyp) (s : State) : Result :=
  runStoreFp (form64 (.p64StoreFp o width imm vltyp) o.svlen vltyp) width o.ew o.tpred (operand64 o.rs2 o.vs2)
    (operand64 o.rs1 o.vs1) imm s

/-- `p64.` OP-FP class (R285). -/
def execP64OpFp (o : FROps 7) (vd : Bool) (vltyp : VLtyp) (s : State) : Result := prefixedFR64 (.p64OpFp o vd vltyp) o vd vltyp s

/-- `p64.` MADD class (R289). -/
def execP64Madd (o : FR4Ops 7) (vltyp : VLtyp) (s : State) : Result := prefixedFR464 (.p64Madd o vltyp) 0b1000011#7 o vltyp s

/-- `p64.` MSUB class (R289). -/
def execP64Msub (o : FR4Ops 7) (vltyp : VLtyp) (s : State) : Result := prefixedFR464 (.p64Msub o vltyp) 0b1000111#7 o vltyp s

/-- `p64.` NMSUB class (R289). -/
def execP64Nmsub (o : FR4Ops 7) (vltyp : VLtyp) (s : State) : Result := prefixedFR464 (.p64Nmsub o vltyp) 0b1001011#7 o vltyp s

/-- `p64.` NMADD class (R289). -/
def execP64Nmadd (o : FR4Ops 7) (vltyp : VLtyp) (s : State) : Result := prefixedFR464 (.p64Nmadd o vltyp) 0b1001111#7 o vltyp s

/-! ### Unprefixed floating-point words (R193, R115, R281)

The opcode table has no row for them, so they are words and no `Instr` (log 16). Each is the element operation
of its prefixed class on one scalar element: no loop context, no predicate, operands f0 to f31 and x0 to x31
(R22), FP16 codes included. Without `HAS_F` each raises IllegalInstruction with the zero-extended word (R280). -/

/-- The form of a 32-bit word (R26): neither context. -/
def form32 (w : BitVec 32) : Form := ⟨w.setWidth 64, 4, .subvl, .default⟩

/-- The scalar operand a 5-bit field names (R22). -/
def operand32 (r : BitVec 5) : Operand := ⟨reg5 r, false⟩

/-- LOAD-FP: width in bits 14:12 (R281, R286), the I-type immediate (R72). -/
def execLoadFp (w : BitVec 32) (s : State) : Result :=
  runLoadFp (form32 w) (w.extractLsb' 12 3) .e64 .none (operand32 (w.extractLsb' 7 5))
    (operand32 (w.extractLsb' 15 5)) (w.extractLsb' 20 12) s

/-- STORE-FP: width in bits 14:12 (R281, R286), the S-type immediate (R72). -/
def execStoreFp (w : BitVec 32) (s : State) : Result :=
  runStoreFp (form32 w) (w.extractLsb' 12 3) .e64 .none (operand32 (w.extractLsb' 20 5))
    (operand32 (w.extractLsb' 15 5)) (w.extractLsb' 25 7 ++ w.extractLsb' 7 5) s

/-- OP-FP: funct5 in bits 31:27, fmt in 26:25, rm in 14:12 (R281, R282). -/
def execOpFp (w : BitVec 32) (s : State) : Result :=
  runOpFp (form32 w) w
    (opFpShape (w.extractLsb' 25 2) (w.extractLsb' 27 5) (w.extractLsb' 12 3) (w.extractLsb' 20 5)) .none
    (operand32 (w.extractLsb' 7 5)) (operand32 (w.extractLsb' 15 5)) (operand32 (w.extractLsb' 20 5)) s

/-- MADD, MSUB, NMSUB and NMADD: rs3 in bits 31:27, fmt in 26:25 (R281, R288). -/
def execFusedMul (w : BitVec 32) (s : State) : Result :=
  runFusedMul (form32 w) w (w.extractLsb' 25 2) .none (operand32 (w.extractLsb' 7 5))
    (operand32 (w.extractLsb' 15 5)) (operand32 (w.extractLsb' 20 5)) (operand32 (w.extractLsb' 27 5)) s

/-- A 32-bit word with a floating-point opcode (R193), by its bits 6:2. -/
def execUnprefixedFloat (w : BitVec 32) (s : State) : Result :=
  match (w.extractLsb' 2 5).toNat with
  | 0b00001 => execLoadFp w s
  | 0b01001 => execStoreFp w s
  | 0b10000 => execFusedMul w s
  | 0b10001 => execFusedMul w s
  | 0b10010 => execFusedMul w s
  | 0b10011 => execFusedMul w s
  | 0b10100 => execOpFp w s
  | _ => illegal (w.setWidth 64) s

end Sys2Proof.Machine
end

