-- ==== Sys2Proof/Machine/PrefixedInteger.lean ====
section
/-!
DEFINITION. The prefixed integer computational instructions: P48-R, P48-I, P48-U and their P64 forms
(43_p48_integer.md R260 to R269, R400 to R429; 45_p64_vltyp.md R300).
-/

namespace Sys2Proof.Machine

/-- P48-R (R261): vd is vs1 or vs2 (R91). -/
def prefixedR48 (i : Instr) (o : ROps 6) (sg : Signedness) (fn : Word → Word → Word) (s : State) : Result :=
  let fm := form48 i o.svlen
  let vd := o.vs1 || o.vs2
  runPrefixed fm true
    (runSingle fm o.pred vd (elementR fm o.ew.bits sg fn (operand48 o.rd vd) (operand48 o.rs1 o.vs1)
      (operand48 o.rs2 o.vs2))) s

/-- P64-R (R261): vd is bit 60 (R84). -/
def prefixedR64 (i : Instr) (o : ROps 7) (vd : Bool) (vltyp : VLtyp) (sg : Signedness)
    (fn : Word → Word → Word) (s : State) : Result :=
  let fm := form64 i o.svlen vltyp
  runPrefixed fm true
    (runSingle fm o.pred vd (elementR fm o.ew.bits sg fn (operand64 o.rd vd) (operand64 o.rs1 o.vs1)
      (operand64 o.rs2 o.vs2))) s

/-- P48-I (R263). -/
def prefixedI48 (i : Instr) (o : IOps 6) (sg : Signedness) (fn : Word → Word) (s : State) : Result :=
  let fm := form48 i o.svlen
  runPrefixed fm true
    (runTwin fm o.tpred o.vs1 o.vd (elementI fm o.ew.bits sg fn (operand48 o.rd o.vd)
      (operand48 o.rs1 o.vs1))) s

/-- P64-I (R263). -/
def prefixedI64 (i : Instr) (o : IOps 7) (vltyp : VLtyp) (sg : Signedness) (fn : Word → Word) (s : State) :
    Result :=
  let fm := form64 i o.svlen vltyp
  runPrefixed fm true
    (runTwin fm o.tpred o.vs1 o.vd (elementI fm o.ew.bits sg fn (operand64 o.rd o.vd)
      (operand64 o.rs1 o.vs1))) s

/-- P48-U (R266). -/
def prefixedU48 (i : Instr) (o : UOps 6) (value : Word) (s : State) : Result :=
  let fm := form48 i o.svlen
  runPrefixed fm true (runSingle fm o.pred o.vd (elementU fm o.ew.bits value (operand48 o.rd o.vd))) s

/-- P64-U (R266). -/
def prefixedU64 (i : Instr) (o : UOps 7) (vltyp : VLtyp) (value : Word) (s : State) : Result :=
  let fm := form64 i o.svlen vltyp
  runPrefixed fm true (runSingle fm o.pred o.vd (elementU fm o.ew.bits value (operand64 o.rd o.vd))) s

/-- `p48.lui` (R400). -/
def execP48Lui (o : UOps 6) (imm : BitVec 20) (s : State) : Result :=
  prefixedU48 (.p48Lui o imm) o (fnLui imm) s

/-- `p48.auipc` (R401). -/
def execP48Auipc (o : UOps 6) (imm : BitVec 20) (s : State) : Result :=
  prefixedU48 (.p48Auipc o imm) o (fnAuipc s.pc imm) s

/-- `p48.addi` (R402). -/
def execP48Addi (o : IOps 6) (imm : BitVec 12) (s : State) : Result :=
  prefixedI48 (.p48Addi o imm) o .unsigned (fnAddi imm) s

/-- `p48.slti` (R403). -/
def execP48Slti (o : IOps 6) (imm : BitVec 12) (s : State) : Result :=
  prefixedI48 (.p48Slti o imm) o .unsigned (fnSlti imm) s

/-- `p48.sltiu` (R404). -/
def execP48Sltiu (o : IOps 6) (imm : BitVec 12) (s : State) : Result :=
  prefixedI48 (.p48Sltiu o imm) o .unsigned (fnSltiu imm) s

/-- `p48.xori` (R405). -/
def execP48Xori (o : IOps 6) (imm : BitVec 12) (s : State) : Result :=
  prefixedI48 (.p48Xori o imm) o .unsigned (fnXori imm) s

/-- `p48.ori` (R406). -/
def execP48Ori (o : IOps 6) (imm : BitVec 12) (s : State) : Result :=
  prefixedI48 (.p48Ori o imm) o .unsigned (fnOri imm) s

/-- `p48.andi` (R407). -/
def execP48Andi (o : IOps 6) (imm : BitVec 12) (s : State) : Result :=
  prefixedI48 (.p48Andi o imm) o .unsigned (fnAndi imm) s

/-- `p48.slli` (R408). -/
def execP48Slli (o : IOps 6) (shamt : BitVec 6) (s : State) : Result :=
  prefixedI48 (.p48Slli o shamt) o .unsigned (fnSlli shamt) s

/-- `p48.srli` (R409). -/
def execP48Srli (o : IOps 6) (shamt : BitVec 6) (s : State) : Result :=
  prefixedI48 (.p48Srli o shamt) o .unsigned (fnSrli shamt) s

/-- `p48.srai` (R410). -/
def execP48Srai (o : IOps 6) (shamt : BitVec 6) (s : State) : Result :=
  prefixedI48 (.p48Srai o shamt) o .unsigned (fnSrai shamt) s

/-- `p48.addiw` (R411). -/
def execP48Addiw (o : IOps 6) (imm : BitVec 12) (s : State) : Result :=
  prefixedI48 (.p48Addiw o imm) o .signed (fnAddiw imm) s

/-- `p48.slliw` (R412). -/
def execP48Slliw (o : IOps 6) (shamt : BitVec 5) (s : State) : Result :=
  prefixedI48 (.p48Slliw o shamt) o .signed (fnSlliw shamt) s

/-- `p48.srliw` (R413). -/
def execP48Srliw (o : IOps 6) (shamt : BitVec 5) (s : State) : Result :=
  prefixedI48 (.p48Srliw o shamt) o .signed (fnSrliw shamt) s

/-- `p48.sraiw` (R414). -/
def execP48Sraiw (o : IOps 6) (shamt : BitVec 5) (s : State) : Result :=
  prefixedI48 (.p48Sraiw o shamt) o .signed (fnSraiw shamt) s

/-- `p48.add` (R415). -/
def execP48Add (o : ROps 6) (s : State) : Result :=
  prefixedR48 (.p48Add o) o .unsigned fnAdd s

/-- `p48.sub` (R416). -/
def execP48Sub (o : ROps 6) (s : State) : Result :=
  prefixedR48 (.p48Sub o) o .unsigned fnSub s

/-- `p48.sll` (R417). -/
def execP48Sll (o : ROps 6) (s : State) : Result :=
  prefixedR48 (.p48Sll o) o .unsigned fnSll s

/-- `p48.slt` (R418). -/
def execP48Slt (o : ROps 6) (s : State) : Result :=
  prefixedR48 (.p48Slt o) o .unsigned fnSlt s

/-- `p48.sltu` (R419). -/
def execP48Sltu (o : ROps 6) (s : State) : Result :=
  prefixedR48 (.p48Sltu o) o .unsigned fnSltu s

/-- `p48.xor` (R420). -/
def execP48Xor (o : ROps 6) (s : State) : Result :=
  prefixedR48 (.p48Xor o) o .unsigned fnXor s

/-- `p48.srl` (R421). -/
def execP48Srl (o : ROps 6) (s : State) : Result :=
  prefixedR48 (.p48Srl o) o .unsigned fnSrl s

/-- `p48.sra` (R422). -/
def execP48Sra (o : ROps 6) (s : State) : Result :=
  prefixedR48 (.p48Sra o) o .unsigned fnSra s

/-- `p48.or` (R423). -/
def execP48Or (o : ROps 6) (s : State) : Result :=
  prefixedR48 (.p48Or o) o .unsigned fnOr s

/-- `p48.and` (R424). -/
def execP48And (o : ROps 6) (s : State) : Result :=
  prefixedR48 (.p48And o) o .unsigned fnAnd s

/-- `p48.addw` (R425). -/
def execP48Addw (o : ROps 6) (s : State) : Result :=
  prefixedR48 (.p48Addw o) o .signed fnAddw s

/-- `p48.subw` (R426). -/
def execP48Subw (o : ROps 6) (s : State) : Result :=
  prefixedR48 (.p48Subw o) o .signed fnSubw s

/-- `p48.sllw` (R427). -/
def execP48Sllw (o : ROps 6) (s : State) : Result :=
  prefixedR48 (.p48Sllw o) o .signed fnSllw s

/-- `p48.srlw` (R428). -/
def execP48Srlw (o : ROps 6) (s : State) : Result :=
  prefixedR48 (.p48Srlw o) o .signed fnSrlw s

/-- `p48.sraw` (R429). -/
def execP48Sraw (o : ROps 6) (s : State) : Result :=
  prefixedR48 (.p48Sraw o) o .signed fnSraw s

/-- `p64.lui` (R400). -/
def execP64Lui (o : UOps 7) (imm : BitVec 20) (vltyp : VLtyp) (s : State) : Result :=
  prefixedU64 (.p64Lui o imm vltyp) o vltyp (fnLui imm) s

/-- `p64.auipc` (R401). -/
def execP64Auipc (o : UOps 7) (imm : BitVec 20) (vltyp : VLtyp) (s : State) : Result :=
  prefixedU64 (.p64Auipc o imm vltyp) o vltyp (fnAuipc s.pc imm) s

/-- `p64.addi` (R402). -/
def execP64Addi (o : IOps 7) (imm : BitVec 12) (vltyp : VLtyp) (s : State) : Result :=
  prefixedI64 (.p64Addi o imm vltyp) o vltyp .unsigned (fnAddi imm) s

/-- `p64.slti` (R403). -/
def execP64Slti (o : IOps 7) (imm : BitVec 12) (vltyp : VLtyp) (s : State) : Result :=
  prefixedI64 (.p64Slti o imm vltyp) o vltyp .unsigned (fnSlti imm) s

/-- `p64.sltiu` (R404). -/
def execP64Sltiu (o : IOps 7) (imm : BitVec 12) (vltyp : VLtyp) (s : State) : Result :=
  prefixedI64 (.p64Sltiu o imm vltyp) o vltyp .unsigned (fnSltiu imm) s

/-- `p64.xori` (R405). -/
def execP64Xori (o : IOps 7) (imm : BitVec 12) (vltyp : VLtyp) (s : State) : Result :=
  prefixedI64 (.p64Xori o imm vltyp) o vltyp .unsigned (fnXori imm) s

/-- `p64.ori` (R406). -/
def execP64Ori (o : IOps 7) (imm : BitVec 12) (vltyp : VLtyp) (s : State) : Result :=
  prefixedI64 (.p64Ori o imm vltyp) o vltyp .unsigned (fnOri imm) s

/-- `p64.andi` (R407). -/
def execP64Andi (o : IOps 7) (imm : BitVec 12) (vltyp : VLtyp) (s : State) : Result :=
  prefixedI64 (.p64Andi o imm vltyp) o vltyp .unsigned (fnAndi imm) s

/-- `p64.slli` (R408). -/
def execP64Slli (o : IOps 7) (shamt : BitVec 6) (vltyp : VLtyp) (s : State) : Result :=
  prefixedI64 (.p64Slli o shamt vltyp) o vltyp .unsigned (fnSlli shamt) s

/-- `p64.srli` (R409). -/
def execP64Srli (o : IOps 7) (shamt : BitVec 6) (vltyp : VLtyp) (s : State) : Result :=
  prefixedI64 (.p64Srli o shamt vltyp) o vltyp .unsigned (fnSrli shamt) s

/-- `p64.srai` (R410). -/
def execP64Srai (o : IOps 7) (shamt : BitVec 6) (vltyp : VLtyp) (s : State) : Result :=
  prefixedI64 (.p64Srai o shamt vltyp) o vltyp .unsigned (fnSrai shamt) s

/-- `p64.addiw` (R411). -/
def execP64Addiw (o : IOps 7) (imm : BitVec 12) (vltyp : VLtyp) (s : State) : Result :=
  prefixedI64 (.p64Addiw o imm vltyp) o vltyp .signed (fnAddiw imm) s

/-- `p64.slliw` (R412). -/
def execP64Slliw (o : IOps 7) (shamt : BitVec 5) (vltyp : VLtyp) (s : State) : Result :=
  prefixedI64 (.p64Slliw o shamt vltyp) o vltyp .signed (fnSlliw shamt) s

/-- `p64.srliw` (R413). -/
def execP64Srliw (o : IOps 7) (shamt : BitVec 5) (vltyp : VLtyp) (s : State) : Result :=
  prefixedI64 (.p64Srliw o shamt vltyp) o vltyp .signed (fnSrliw shamt) s

/-- `p64.sraiw` (R414). -/
def execP64Sraiw (o : IOps 7) (shamt : BitVec 5) (vltyp : VLtyp) (s : State) : Result :=
  prefixedI64 (.p64Sraiw o shamt vltyp) o vltyp .signed (fnSraiw shamt) s

/-- `p64.add` (R415). -/
def execP64Add (o : ROps 7) (vd : Bool) (vltyp : VLtyp) (s : State) : Result :=
  prefixedR64 (.p64Add o vd vltyp) o vd vltyp .unsigned fnAdd s

/-- `p64.sub` (R416). -/
def execP64Sub (o : ROps 7) (vd : Bool) (vltyp : VLtyp) (s : State) : Result :=
  prefixedR64 (.p64Sub o vd vltyp) o vd vltyp .unsigned fnSub s

/-- `p64.sll` (R417). -/
def execP64Sll (o : ROps 7) (vd : Bool) (vltyp : VLtyp) (s : State) : Result :=
  prefixedR64 (.p64Sll o vd vltyp) o vd vltyp .unsigned fnSll s

/-- `p64.slt` (R418). -/
def execP64Slt (o : ROps 7) (vd : Bool) (vltyp : VLtyp) (s : State) : Result :=
  prefixedR64 (.p64Slt o vd vltyp) o vd vltyp .unsigned fnSlt s

/-- `p64.sltu` (R419). -/
def execP64Sltu (o : ROps 7) (vd : Bool) (vltyp : VLtyp) (s : State) : Result :=
  prefixedR64 (.p64Sltu o vd vltyp) o vd vltyp .unsigned fnSltu s

/-- `p64.xor` (R420). -/
def execP64Xor (o : ROps 7) (vd : Bool) (vltyp : VLtyp) (s : State) : Result :=
  prefixedR64 (.p64Xor o vd vltyp) o vd vltyp .unsigned fnXor s

/-- `p64.srl` (R421). -/
def execP64Srl (o : ROps 7) (vd : Bool) (vltyp : VLtyp) (s : State) : Result :=
  prefixedR64 (.p64Srl o vd vltyp) o vd vltyp .unsigned fnSrl s

/-- `p64.sra` (R422). -/
def execP64Sra (o : ROps 7) (vd : Bool) (vltyp : VLtyp) (s : State) : Result :=
  prefixedR64 (.p64Sra o vd vltyp) o vd vltyp .unsigned fnSra s

/-- `p64.or` (R423). -/
def execP64Or (o : ROps 7) (vd : Bool) (vltyp : VLtyp) (s : State) : Result :=
  prefixedR64 (.p64Or o vd vltyp) o vd vltyp .unsigned fnOr s

/-- `p64.and` (R424). -/
def execP64And (o : ROps 7) (vd : Bool) (vltyp : VLtyp) (s : State) : Result :=
  prefixedR64 (.p64And o vd vltyp) o vd vltyp .unsigned fnAnd s

/-- `p64.addw` (R425). -/
def execP64Addw (o : ROps 7) (vd : Bool) (vltyp : VLtyp) (s : State) : Result :=
  prefixedR64 (.p64Addw o vd vltyp) o vd vltyp .signed fnAddw s

/-- `p64.subw` (R426). -/
def execP64Subw (o : ROps 7) (vd : Bool) (vltyp : VLtyp) (s : State) : Result :=
  prefixedR64 (.p64Subw o vd vltyp) o vd vltyp .signed fnSubw s

/-- `p64.sllw` (R427). -/
def execP64Sllw (o : ROps 7) (vd : Bool) (vltyp : VLtyp) (s : State) : Result :=
  prefixedR64 (.p64Sllw o vd vltyp) o vd vltyp .signed fnSllw s

/-- `p64.srlw` (R428). -/
def execP64Srlw (o : ROps 7) (vd : Bool) (vltyp : VLtyp) (s : State) : Result :=
  prefixedR64 (.p64Srlw o vd vltyp) o vd vltyp .signed fnSrlw s

/-- `p64.sraw` (R429). -/
def execP64Sraw (o : ROps 7) (vd : Bool) (vltyp : VLtyp) (s : State) : Result :=
  prefixedR64 (.p64Sraw o vd vltyp) o vd vltyp .signed fnSraw s

end Sys2Proof.Machine
end

