-- ==== Sys2Proof/Machine/PrefixedMemory.lean ====
section
/-!
DEFINITION. The prefixed loads and stores: P48-LD, P48-ST and their P64 forms (42_p48_load_store.md R240 to R259, R270).
-/

namespace Sys2Proof.Machine

/-- P48-LD (R241, R243): memory is indexed when vd or vs1 is set. -/
def prefixedLoad48 (i : Instr) (o : IOps 6) (imm : BitVec 12) (mb : Nat) (sg : Signedness) (s : State) :
    Result :=
  let fm := form48 i o.svlen
  let sv := o.vd || o.vs1
  runPrefixed fm true
    (runTwin fm o.tpred sv o.vd (elementLoad fm mb sg o.ew.bits (operand48 o.rd o.vd) (operand48 o.rs1 o.vs1)
      (immI imm) sv)) s

/-- P64-LD (R241, R243). -/
def prefixedLoad64 (i : Instr) (o : IOps 7) (imm : BitVec 12) (vltyp : VLtyp) (mb : Nat) (sg : Signedness)
    (s : State) : Result :=
  let fm := form64 i o.svlen vltyp
  let sv := o.vd || o.vs1
  runPrefixed fm true
    (runTwin fm o.tpred sv o.vd (elementLoad fm mb sg o.ew.bits (operand64 o.rd o.vd) (operand64 o.rs1 o.vs1)
      (immI imm) sv)) s

/-- P48-ST (R241, R243): memory is indexed when vs2 or vs1 is set. -/
def prefixedStore48 (i : Instr) (o : SOps 6) (imm : BitVec 12) (mb : Nat) (s : State) : Result :=
  let fm := form48 i o.svlen
  let dv := o.vs2 || o.vs1
  runPrefixed fm true
    (runTwin fm o.tpred o.vs2 dv (elementStore fm mb o.ew.bits (operand48 o.rs2 o.vs2)
      (operand48 o.rs1 o.vs1) (immI imm) dv)) s

/-- P64-ST (R241, R243). -/
def prefixedStore64 (i : Instr) (o : SOps 7) (imm : BitVec 12) (vltyp : VLtyp) (mb : Nat) (s : State) :
    Result :=
  let fm := form64 i o.svlen vltyp
  let dv := o.vs2 || o.vs1
  runPrefixed fm true
    (runTwin fm o.tpred o.vs2 dv (elementStore fm mb o.ew.bits (operand64 o.rs2 o.vs2)
      (operand64 o.rs1 o.vs1) (immI imm) dv)) s

/-- `p48.lb` (R247). -/
def execP48Lb (o : IOps 6) (imm : BitVec 12) (s : State) : Result :=
  prefixedLoad48 (.p48Lb o imm) o imm 1 .signed s

/-- `p48.lh` (R248). -/
def execP48Lh (o : IOps 6) (imm : BitVec 12) (s : State) : Result :=
  prefixedLoad48 (.p48Lh o imm) o imm 2 .signed s

/-- `p48.lw` (R249). -/
def execP48Lw (o : IOps 6) (imm : BitVec 12) (s : State) : Result :=
  prefixedLoad48 (.p48Lw o imm) o imm 4 .signed s

/-- `p48.ld` (R250). -/
def execP48Ld (o : IOps 6) (imm : BitVec 12) (s : State) : Result :=
  prefixedLoad48 (.p48Ld o imm) o imm 8 .unsigned s

/-- `p48.lbu` (R251). -/
def execP48Lbu (o : IOps 6) (imm : BitVec 12) (s : State) : Result :=
  prefixedLoad48 (.p48Lbu o imm) o imm 1 .unsigned s

/-- `p48.lhu` (R252). -/
def execP48Lhu (o : IOps 6) (imm : BitVec 12) (s : State) : Result :=
  prefixedLoad48 (.p48Lhu o imm) o imm 2 .unsigned s

/-- `p48.lwu` (R253). -/
def execP48Lwu (o : IOps 6) (imm : BitVec 12) (s : State) : Result :=
  prefixedLoad48 (.p48Lwu o imm) o imm 4 .unsigned s

/-- `p48.sb` (R254). -/
def execP48Sb (o : SOps 6) (imm : BitVec 12) (s : State) : Result :=
  prefixedStore48 (.p48Sb o imm) o imm 1 s

/-- `p48.sh` (R255). -/
def execP48Sh (o : SOps 6) (imm : BitVec 12) (s : State) : Result :=
  prefixedStore48 (.p48Sh o imm) o imm 2 s

/-- `p48.sw` (R256). -/
def execP48Sw (o : SOps 6) (imm : BitVec 12) (s : State) : Result :=
  prefixedStore48 (.p48Sw o imm) o imm 4 s

/-- `p48.sd` (R257). -/
def execP48Sd (o : SOps 6) (imm : BitVec 12) (s : State) : Result :=
  prefixedStore48 (.p48Sd o imm) o imm 8 s

/-- `p64.lb` (R247). -/
def execP64Lb (o : IOps 7) (imm : BitVec 12) (vltyp : VLtyp) (s : State) : Result :=
  prefixedLoad64 (.p64Lb o imm vltyp) o imm vltyp 1 .signed s

/-- `p64.lh` (R248). -/
def execP64Lh (o : IOps 7) (imm : BitVec 12) (vltyp : VLtyp) (s : State) : Result :=
  prefixedLoad64 (.p64Lh o imm vltyp) o imm vltyp 2 .signed s

/-- `p64.lw` (R249). -/
def execP64Lw (o : IOps 7) (imm : BitVec 12) (vltyp : VLtyp) (s : State) : Result :=
  prefixedLoad64 (.p64Lw o imm vltyp) o imm vltyp 4 .signed s

/-- `p64.ld` (R250). -/
def execP64Ld (o : IOps 7) (imm : BitVec 12) (vltyp : VLtyp) (s : State) : Result :=
  prefixedLoad64 (.p64Ld o imm vltyp) o imm vltyp 8 .unsigned s

/-- `p64.lbu` (R251). -/
def execP64Lbu (o : IOps 7) (imm : BitVec 12) (vltyp : VLtyp) (s : State) : Result :=
  prefixedLoad64 (.p64Lbu o imm vltyp) o imm vltyp 1 .unsigned s

/-- `p64.lhu` (R252). -/
def execP64Lhu (o : IOps 7) (imm : BitVec 12) (vltyp : VLtyp) (s : State) : Result :=
  prefixedLoad64 (.p64Lhu o imm vltyp) o imm vltyp 2 .unsigned s

/-- `p64.lwu` (R253). -/
def execP64Lwu (o : IOps 7) (imm : BitVec 12) (vltyp : VLtyp) (s : State) : Result :=
  prefixedLoad64 (.p64Lwu o imm vltyp) o imm vltyp 4 .unsigned s

/-- `p64.sb` (R254). -/
def execP64Sb (o : SOps 7) (imm : BitVec 12) (vltyp : VLtyp) (s : State) : Result :=
  prefixedStore64 (.p64Sb o imm vltyp) o imm vltyp 1 s

/-- `p64.sh` (R255). -/
def execP64Sh (o : SOps 7) (imm : BitVec 12) (vltyp : VLtyp) (s : State) : Result :=
  prefixedStore64 (.p64Sh o imm vltyp) o imm vltyp 2 s

/-- `p64.sw` (R256). -/
def execP64Sw (o : SOps 7) (imm : BitVec 12) (vltyp : VLtyp) (s : State) : Result :=
  prefixedStore64 (.p64Sw o imm vltyp) o imm vltyp 4 s

/-- `p64.sd` (R257). -/
def execP64Sd (o : SOps 7) (imm : BitVec 12) (vltyp : VLtyp) (s : State) : Result :=
  prefixedStore64 (.p64Sd o imm vltyp) o imm vltyp 8 s

end Sys2Proof.Machine
end

