-- ==== Sys2Proof/Machine/System.lean ====
section
/-!
DEFINITION. FENCE, ECALL, EBREAK and the six CSR instructions (40_base_scalar.md R184 to R192). The only CSR is SVPSTATE
(10_state.md R35).
-/

namespace Sys2Proof.Machine

/-- `fence` (R184, R61): no effect but the advance of the pc; its fields are ignored. -/
def execFence (_rd _rs1 : BitVec 5) (_imm : BitVec 12) (s : State) : Result := .next (s.advance 4)

/-- `ecall` (R185, R349). -/
def execEcall (s : State) : Result := .next (s.takeTrap .environmentCall 0#64)

/-- `ebreak` (R186, R349). -/
def execEbreak (s : State) : Result := .next (s.takeTrap .breakpoint s.pc)

/-- SVPSTATE as a CSR read gives it: zero-extended (R30). -/
def State.csrRead (s : State) : Word := s.svpstate.setWidth 64

/-- A CSR instruction (section 11 of 40_base_scalar.md): `write` is the value to write, if it writes. Any
address but `CSR_SVPSTATE` is illegal (R35), and so is a value with an unsupported bit set (R36); then
nothing changes. -/
def csrAccess (i : Instr) (rd : BitVec 5) (csr : BitVec 12) (write : Option Word) (s : State) : Result :=
  if csr = s.platform.csrSvpstate then
    match write with
    | none => writeBack s
    | some v => if v &&& unsupportedBits s.platform = 0#64 then writeBack (s.withSvpstate (v.setWidth 32))
      else illegal i.word s
  else illegal i.word s
where
  /-- `x[rd] <- t`, t the old value, and pc + 4. -/
  writeBack (s' : State) : Result := .next ((s'.setX (reg5 rd) s.csrRead).advance 4)

/-- `csrrw` (R187). -/
def execCsrrw (rd rs1 : BitVec 5) (csr : BitVec 12) (s : State) : Result :=
  csrAccess (.csrrw rd rs1 csr) rd csr (some (s.getX (reg5 rs1))) s

/-- `csrrs` (R188). -/
def execCsrrs (rd rs1 : BitVec 5) (csr : BitVec 12) (s : State) : Result :=
  csrAccess (.csrrs rd rs1 csr) rd csr (if rs1 = 0#5 then none else some (s.csrRead ||| s.getX (reg5 rs1))) s

/-- `csrrc` (R189). -/
def execCsrrc (rd rs1 : BitVec 5) (csr : BitVec 12) (s : State) : Result :=
  csrAccess (.csrrc rd rs1 csr) rd csr (if rs1 = 0#5 then none else some (s.csrRead &&& ~~~(s.getX (reg5 rs1)))) s

/-- `csrrwi` (R190). -/
def execCsrrwi (rd zimm : BitVec 5) (csr : BitVec 12) (s : State) : Result :=
  csrAccess (.csrrwi rd zimm csr) rd csr (some (zimm.setWidth 64)) s

/-- `csrrsi` (R191). -/
def execCsrrsi (rd zimm : BitVec 5) (csr : BitVec 12) (s : State) : Result :=
  csrAccess (.csrrsi rd zimm csr) rd csr (if zimm = 0#5 then none else some (s.csrRead ||| zimm.setWidth 64)) s

/-- `csrrci` (R192). -/
def execCsrrci (rd zimm : BitVec 5) (csr : BitVec 12) (s : State) : Result :=
  csrAccess (.csrrci rd zimm csr) rd csr (if zimm = 0#5 then none else some (s.csrRead &&& ~~~(zimm.setWidth 64))) s

end Sys2Proof.Machine
end

