-- ==== Sys2Proof/Machine/Dispatch.lean ====
section
/-!
DEFINITION. One arm per constructor of `Instr`: the meaning of each instruction.
-/

namespace Sys2Proof.Machine

def exec (i : Instr) (s : State) : Host.Outcome State Fault Refusal :=
  match i with
  | .lui rd imm => Sys2Proof.Machine.execLui rd imm s
  | .auipc rd imm => Sys2Proof.Machine.execAuipc rd imm s
  | .addi rd rs1 imm => Sys2Proof.Machine.execAddi rd rs1 imm s
  | .slti rd rs1 imm => Sys2Proof.Machine.execSlti rd rs1 imm s
  | .sltiu rd rs1 imm => Sys2Proof.Machine.execSltiu rd rs1 imm s
  | .xori rd rs1 imm => Sys2Proof.Machine.execXori rd rs1 imm s
  | .ori rd rs1 imm => Sys2Proof.Machine.execOri rd rs1 imm s
  | .andi rd rs1 imm => Sys2Proof.Machine.execAndi rd rs1 imm s
  | .slli rd rs1 shamt => Sys2Proof.Machine.execSlli rd rs1 shamt s
  | .srli rd rs1 shamt => Sys2Proof.Machine.execSrli rd rs1 shamt s
  | .srai rd rs1 shamt => Sys2Proof.Machine.execSrai rd rs1 shamt s
  | .addiw rd rs1 imm => Sys2Proof.Machine.execAddiw rd rs1 imm s
  | .slliw rd rs1 shamt => Sys2Proof.Machine.execSlliw rd rs1 shamt s
  | .srliw rd rs1 shamt => Sys2Proof.Machine.execSrliw rd rs1 shamt s
  | .sraiw rd rs1 shamt => Sys2Proof.Machine.execSraiw rd rs1 shamt s
  | .add rd rs1 rs2 => Sys2Proof.Machine.execAdd rd rs1 rs2 s
  | .sub rd rs1 rs2 => Sys2Proof.Machine.execSub rd rs1 rs2 s
  | .sll rd rs1 rs2 => Sys2Proof.Machine.execSll rd rs1 rs2 s
  | .slt rd rs1 rs2 => Sys2Proof.Machine.execSlt rd rs1 rs2 s
  | .sltu rd rs1 rs2 => Sys2Proof.Machine.execSltu rd rs1 rs2 s
  | .xor rd rs1 rs2 => Sys2Proof.Machine.execXor rd rs1 rs2 s
  | .srl rd rs1 rs2 => Sys2Proof.Machine.execSrl rd rs1 rs2 s
  | .sra rd rs1 rs2 => Sys2Proof.Machine.execSra rd rs1 rs2 s
  | .or rd rs1 rs2 => Sys2Proof.Machine.execOr rd rs1 rs2 s
  | .and rd rs1 rs2 => Sys2Proof.Machine.execAnd rd rs1 rs2 s
  | .addw rd rs1 rs2 => Sys2Proof.Machine.execAddw rd rs1 rs2 s
  | .subw rd rs1 rs2 => Sys2Proof.Machine.execSubw rd rs1 rs2 s
  | .sllw rd rs1 rs2 => Sys2Proof.Machine.execSllw rd rs1 rs2 s
  | .srlw rd rs1 rs2 => Sys2Proof.Machine.execSrlw rd rs1 rs2 s
  | .sraw rd rs1 rs2 => Sys2Proof.Machine.execSraw rd rs1 rs2 s
  | .lb rd rs1 imm => Sys2Proof.Machine.execLb rd rs1 imm s
  | .lh rd rs1 imm => Sys2Proof.Machine.execLh rd rs1 imm s
  | .lw rd rs1 imm => Sys2Proof.Machine.execLw rd rs1 imm s
  | .ld rd rs1 imm => Sys2Proof.Machine.execLd rd rs1 imm s
  | .lbu rd rs1 imm => Sys2Proof.Machine.execLbu rd rs1 imm s
  | .lhu rd rs1 imm => Sys2Proof.Machine.execLhu rd rs1 imm s
  | .lwu rd rs1 imm => Sys2Proof.Machine.execLwu rd rs1 imm s
  | .sb rs1 rs2 imm => Sys2Proof.Machine.execSb rs1 rs2 imm s
  | .sh rs1 rs2 imm => Sys2Proof.Machine.execSh rs1 rs2 imm s
  | .sw rs1 rs2 imm => Sys2Proof.Machine.execSw rs1 rs2 imm s
  | .sd rs1 rs2 imm => Sys2Proof.Machine.execSd rs1 rs2 imm s
  | .jal rd offset => Sys2Proof.Machine.execJal rd offset s
  | .jalr rd rs1 imm => Sys2Proof.Machine.execJalr rd rs1 imm s
  | .beq rs1 rs2 offset => Sys2Proof.Machine.execBeq rs1 rs2 offset s
  | .bne rs1 rs2 offset => Sys2Proof.Machine.execBne rs1 rs2 offset s
  | .blt rs1 rs2 offset => Sys2Proof.Machine.execBlt rs1 rs2 offset s
  | .bge rs1 rs2 offset => Sys2Proof.Machine.execBge rs1 rs2 offset s
  | .bltu rs1 rs2 offset => Sys2Proof.Machine.execBltu rs1 rs2 offset s
  | .bgeu rs1 rs2 offset => Sys2Proof.Machine.execBgeu rs1 rs2 offset s
  | .fence rd rs1 imm => Sys2Proof.Machine.execFence rd rs1 imm s
  | .ecall => Sys2Proof.Machine.execEcall s
  | .ebreak => Sys2Proof.Machine.execEbreak s
  | .csrrw rd rs1 csr => Sys2Proof.Machine.execCsrrw rd rs1 csr s
  | .csrrs rd rs1 csr => Sys2Proof.Machine.execCsrrs rd rs1 csr s
  | .csrrc rd rs1 csr => Sys2Proof.Machine.execCsrrc rd rs1 csr s
  | .csrrwi rd zimm csr => Sys2Proof.Machine.execCsrrwi rd zimm csr s
  | .csrrsi rd zimm csr => Sys2Proof.Machine.execCsrrsi rd zimm csr s
  | .csrrci rd zimm csr => Sys2Proof.Machine.execCsrrci rd zimm csr s
  | .p48Lui o imm => Sys2Proof.Machine.execP48Lui o imm s
  | .p48Auipc o imm => Sys2Proof.Machine.execP48Auipc o imm s
  | .p48Addi o imm => Sys2Proof.Machine.execP48Addi o imm s
  | .p48Slti o imm => Sys2Proof.Machine.execP48Slti o imm s
  | .p48Sltiu o imm => Sys2Proof.Machine.execP48Sltiu o imm s
  | .p48Xori o imm => Sys2Proof.Machine.execP48Xori o imm s
  | .p48Ori o imm => Sys2Proof.Machine.execP48Ori o imm s
  | .p48Andi o imm => Sys2Proof.Machine.execP48Andi o imm s
  | .p48Slli o shamt => Sys2Proof.Machine.execP48Slli o shamt s
  | .p48Srli o shamt => Sys2Proof.Machine.execP48Srli o shamt s
  | .p48Srai o shamt => Sys2Proof.Machine.execP48Srai o shamt s
  | .p48Addiw o imm => Sys2Proof.Machine.execP48Addiw o imm s
  | .p48Slliw o shamt => Sys2Proof.Machine.execP48Slliw o shamt s
  | .p48Srliw o shamt => Sys2Proof.Machine.execP48Srliw o shamt s
  | .p48Sraiw o shamt => Sys2Proof.Machine.execP48Sraiw o shamt s
  | .p48Add o => Sys2Proof.Machine.execP48Add o s
  | .p48Sub o => Sys2Proof.Machine.execP48Sub o s
  | .p48Sll o => Sys2Proof.Machine.execP48Sll o s
  | .p48Slt o => Sys2Proof.Machine.execP48Slt o s
  | .p48Sltu o => Sys2Proof.Machine.execP48Sltu o s
  | .p48Xor o => Sys2Proof.Machine.execP48Xor o s
  | .p48Srl o => Sys2Proof.Machine.execP48Srl o s
  | .p48Sra o => Sys2Proof.Machine.execP48Sra o s
  | .p48Or o => Sys2Proof.Machine.execP48Or o s
  | .p48And o => Sys2Proof.Machine.execP48And o s
  | .p48Addw o => Sys2Proof.Machine.execP48Addw o s
  | .p48Subw o => Sys2Proof.Machine.execP48Subw o s
  | .p48Sllw o => Sys2Proof.Machine.execP48Sllw o s
  | .p48Srlw o => Sys2Proof.Machine.execP48Srlw o s
  | .p48Sraw o => Sys2Proof.Machine.execP48Sraw o s
  | .p48Lb o imm => Sys2Proof.Machine.execP48Lb o imm s
  | .p48Lh o imm => Sys2Proof.Machine.execP48Lh o imm s
  | .p48Lw o imm => Sys2Proof.Machine.execP48Lw o imm s
  | .p48Ld o imm => Sys2Proof.Machine.execP48Ld o imm s
  | .p48Lbu o imm => Sys2Proof.Machine.execP48Lbu o imm s
  | .p48Lhu o imm => Sys2Proof.Machine.execP48Lhu o imm s
  | .p48Lwu o imm => Sys2Proof.Machine.execP48Lwu o imm s
  | .p48Sb o imm => Sys2Proof.Machine.execP48Sb o imm s
  | .p48Sh o imm => Sys2Proof.Machine.execP48Sh o imm s
  | .p48Sw o imm => Sys2Proof.Machine.execP48Sw o imm s
  | .p48Sd o imm => Sys2Proof.Machine.execP48Sd o imm s
  | .p64Lui o imm vltyp => Sys2Proof.Machine.execP64Lui o imm vltyp s
  | .p64Auipc o imm vltyp => Sys2Proof.Machine.execP64Auipc o imm vltyp s
  | .p64Addi o imm vltyp => Sys2Proof.Machine.execP64Addi o imm vltyp s
  | .p64Slti o imm vltyp => Sys2Proof.Machine.execP64Slti o imm vltyp s
  | .p64Sltiu o imm vltyp => Sys2Proof.Machine.execP64Sltiu o imm vltyp s
  | .p64Xori o imm vltyp => Sys2Proof.Machine.execP64Xori o imm vltyp s
  | .p64Ori o imm vltyp => Sys2Proof.Machine.execP64Ori o imm vltyp s
  | .p64Andi o imm vltyp => Sys2Proof.Machine.execP64Andi o imm vltyp s
  | .p64Slli o shamt vltyp => Sys2Proof.Machine.execP64Slli o shamt vltyp s
  | .p64Srli o shamt vltyp => Sys2Proof.Machine.execP64Srli o shamt vltyp s
  | .p64Srai o shamt vltyp => Sys2Proof.Machine.execP64Srai o shamt vltyp s
  | .p64Addiw o imm vltyp => Sys2Proof.Machine.execP64Addiw o imm vltyp s
  | .p64Slliw o shamt vltyp => Sys2Proof.Machine.execP64Slliw o shamt vltyp s
  | .p64Srliw o shamt vltyp => Sys2Proof.Machine.execP64Srliw o shamt vltyp s
  | .p64Sraiw o shamt vltyp => Sys2Proof.Machine.execP64Sraiw o shamt vltyp s
  | .p64Add o vd vltyp => Sys2Proof.Machine.execP64Add o vd vltyp s
  | .p64Sub o vd vltyp => Sys2Proof.Machine.execP64Sub o vd vltyp s
  | .p64Sll o vd vltyp => Sys2Proof.Machine.execP64Sll o vd vltyp s
  | .p64Slt o vd vltyp => Sys2Proof.Machine.execP64Slt o vd vltyp s
  | .p64Sltu o vd vltyp => Sys2Proof.Machine.execP64Sltu o vd vltyp s
  | .p64Xor o vd vltyp => Sys2Proof.Machine.execP64Xor o vd vltyp s
  | .p64Srl o vd vltyp => Sys2Proof.Machine.execP64Srl o vd vltyp s
  | .p64Sra o vd vltyp => Sys2Proof.Machine.execP64Sra o vd vltyp s
  | .p64Or o vd vltyp => Sys2Proof.Machine.execP64Or o vd vltyp s
  | .p64And o vd vltyp => Sys2Proof.Machine.execP64And o vd vltyp s
  | .p64Addw o vd vltyp => Sys2Proof.Machine.execP64Addw o vd vltyp s
  | .p64Subw o vd vltyp => Sys2Proof.Machine.execP64Subw o vd vltyp s
  | .p64Sllw o vd vltyp => Sys2Proof.Machine.execP64Sllw o vd vltyp s
  | .p64Srlw o vd vltyp => Sys2Proof.Machine.execP64Srlw o vd vltyp s
  | .p64Sraw o vd vltyp => Sys2Proof.Machine.execP64Sraw o vd vltyp s
  | .p64Lb o imm vltyp => Sys2Proof.Machine.execP64Lb o imm vltyp s
  | .p64Lh o imm vltyp => Sys2Proof.Machine.execP64Lh o imm vltyp s
  | .p64Lw o imm vltyp => Sys2Proof.Machine.execP64Lw o imm vltyp s
  | .p64Ld o imm vltyp => Sys2Proof.Machine.execP64Ld o imm vltyp s
  | .p64Lbu o imm vltyp => Sys2Proof.Machine.execP64Lbu o imm vltyp s
  | .p64Lhu o imm vltyp => Sys2Proof.Machine.execP64Lhu o imm vltyp s
  | .p64Lwu o imm vltyp => Sys2Proof.Machine.execP64Lwu o imm vltyp s
  | .p64Sb o imm vltyp => Sys2Proof.Machine.execP64Sb o imm vltyp s
  | .p64Sh o imm vltyp => Sys2Proof.Machine.execP64Sh o imm vltyp s
  | .p64Sw o imm vltyp => Sys2Proof.Machine.execP64Sw o imm vltyp s
  | .p64Sd o imm vltyp => Sys2Proof.Machine.execP64Sd o imm vltyp s
  | .p48LoadFp o width imm => Sys2Proof.Machine.execP48LoadFp o width imm s
  | .p48StoreFp o width imm => Sys2Proof.Machine.execP48StoreFp o width imm s
  | .p48OpFp o => Sys2Proof.Machine.execP48OpFp o s
  | .p48Madd o => Sys2Proof.Machine.execP48Madd o s
  | .p48Msub o => Sys2Proof.Machine.execP48Msub o s
  | .p48Nmsub o => Sys2Proof.Machine.execP48Nmsub o s
  | .p48Nmadd o => Sys2Proof.Machine.execP48Nmadd o s
  | .p64LoadFp o width imm vltyp => Sys2Proof.Machine.execP64LoadFp o width imm vltyp s
  | .p64StoreFp o width imm vltyp => Sys2Proof.Machine.execP64StoreFp o width imm vltyp s
  | .p64OpFp o vd vltyp => Sys2Proof.Machine.execP64OpFp o vd vltyp s
  | .p64Madd o vltyp => Sys2Proof.Machine.execP64Madd o vltyp s
  | .p64Msub o vltyp => Sys2Proof.Machine.execP64Msub o vltyp s
  | .p64Nmsub o vltyp => Sys2Proof.Machine.execP64Nmsub o vltyp s
  | .p64Nmadd o vltyp => Sys2Proof.Machine.execP64Nmadd o vltyp s

end Sys2Proof.Machine
end

