-- ==== Sys2Proof/Machine/Fetch.lean ====
section
/-!
DEFINITION. Instruction fetch, parcel by parcel (20_memory.md R50, 60_exceptions.md R342, R351), what a word
that decodes to no `Instr` does (R341, 40_base_scalar.md R193), and placing an instruction where the next fetch reads it.
-/

namespace Sys2Proof.Machine

/-- What a fetch answers: what it read, or how the step ends without it. -/
abbrev Fetched (α : Type) := Except Result α

/-- The parcel at byte address `a`. Its checks, in this order (log 21): the fetch runs past 2^64 - 1 (R26), a
byte is outside `MemMap` (R342), the program has stored to a byte (R62), a byte holds no value (R381). -/
def fetchParcel (s : State) (a : Nat) : Fetched (BitVec 16) :=
  if 2 ^ 64 ≤ a + 1 then .error (.refused .fetchWraps)
  else if (backed s.platform a && backed s.platform (a + 1)) = false then
    .error (.next (s.takeTrap .instructionAccessFault (BitVec.ofNat 64 a)))
  else if s.stored.elem a then .error (.refused (.fetchOfStoredByte a))
  else if s.stored.elem (a + 1) then .error (.refused (.fetchOfStoredByte (a + 1)))
  else
    match Memory.read s.mem a, Memory.read s.mem (a + 1) with
    | none, _ => .error (.fault (.unwrittenByte a))
    | some _, none => .error (.fault (.unwrittenByte (a + 1)))
    | some lo, some hi => .ok (parcelOf lo hi)

/-- The parcels after the first, up to `n` of them, joined above the value read so far (R50). -/
def fetchRest (s : State) (a : Nat) : Nat → Fetched Word
  | 0 => .ok 0#64
  | n + 1 =>
    match fetchParcel s a with
    | .error r => .error r
    | .ok p =>
      match fetchRest s (a + 2) n with
      | .error r => .error r
      | .ok high => .ok ((high <<< 16) ||| p.setWidth 64)

/-- The instruction word at the pc. The first parcel gives the length (R71); a 16-bit parcel and a length
above 64 bits are illegal with that parcel as trap value (R341), before any later parcel is read (R351). -/
def fetch (s : State) : Fetched InstrWord :=
  match fetchParcel s s.pc.toNat with
  | .error r => .error r
  | .ok p =>
    match lengthOf p with
    | .sixteen => .error (illegal (p.setWidth 64) s)
    | .longer => .error (illegal (p.setWidth 64) s)
    | .l32 =>
      match fetchRest s s.pc.toNat 2 with
      | .error r => .error r
      | .ok w => .ok (.w32 (w.setWidth 32))
    | .l48 =>
      match fetchRest s s.pc.toNat 3 with
      | .error r => .error r
      | .ok w => .ok (.w48 (w.setWidth 48))
    | .l64 =>
      match fetchRest s s.pc.toNat 4 with
      | .error r => .error r
      | .ok w => .ok (.w64 w)

/-- A word that decodes to no `Instr`: an unprefixed floating-point word has its own meaning, which is
IllegalInstruction without `HAS_F` (R193, R280); every other raises IllegalInstruction (R341). -/
def undecodable (w : InstrWord) (e : DecodeError) (s : State) : Result :=
  match e with
  | .floatBase =>
    match w with
    | .w32 v => execUnprefixedFloat v s
    | .w48 _ => illegal w.toWord s
    | .w64 _ => illegal w.toWord s
  | .sixteenBit => illegal w.toWord s
  | .tooLong => illegal w.toWord s
  | .truncated => illegal w.toWord s
  | .wrongMarker => illegal w.toWord s
  | .notBase => illegal w.toWord s
  | .reservedBase => illegal w.toWord s
  | .reservedBit => illegal w.toWord s
  | .reservedPred => illegal w.toWord s
  | .vltypX0 => illegal w.toWord s

/-- Bytes placed in memory by the platform from address `a` upward (R371, R381). -/
def placeBytes (m : Memory) (a : Nat) : List Byte → Memory
  | [] => m
  | b :: rest => placeBytes (Memory.write m a b) (a + 1) rest

/-- The addresses stored to, without those of `n` bytes from `a` upward: the platform has placed new bytes
there. -/
def unmarkStored (l : List Nat) (a n : Nat) : List Nat := l.filter (fun b => decide (b < a) || decide (a + n ≤ b))

/-- The platform with the `n` bytes from `a` upward backed. -/
def backing (p : Platform) (a n : Nat) : Platform :=
  if backedRange p a n then p else { p with memMap := ⟨a, n⟩ :: p.memMap }

/-- The platform's placing of an instruction, 8 bytes of `w`, at the pc of a hart that has not stopped. -/
def placeAtPc (s : State) (w : Word) : State :=
  { s with
    mem := placeBytes s.mem s.pc.toNat (bytesOf 8 w)
    stored := unmarkStored s.stored s.pc.toNat 8
    trap := none
    platform := backing s.platform s.pc.toNat 8 }

end Sys2Proof.Machine
end

