-- ==== Sys2Proof/Machine/Step.lean ====
section
/-!
DEFINITION. One step of the hart (60_exceptions.md R351, R355, R370): one instruction, all its elements (R388).
-/

namespace Sys2Proof.Machine

/-- One step. A hart that has trapped makes none (R347); an odd pc is a refused launch (R380). Otherwise the
instruction at the pc is fetched, decoded and executed; a word that is no `Instr` does what `undecodable` says. -/
def step (s : State) : Host.Outcome State Fault Refusal :=
  match s.trap with
  | some _ => .fault .stopped
  | none =>
    if s.pc.getLsbD 0 then .refused .oddPc
    else
      match fetch s with
      | .error r => r
      | .ok w =>
        match decode w with
        | .error e => undecodable w e s
        | .ok i => exec i s

/-- `s` with the instruction whose bits are `w` (`nbits` of them, the bits above 0) where the next step
fetches: 8 bytes placed at the pc from outside the machine (R371), backed, not stored to by the program, and
the hart not stopped (log 6). -/
def State.withFetchWord (s : State) (nbits w : Nat) : State :=
  placeAtPc s (BitVec.ofNat 64 (w % 2 ^ nbits))

end Sys2Proof.Machine
end

