-- ==== Sys2Proof/Safety.lean ====
section
/-!
DEFINITION. The terms the statements use: when a state is well formed, how a run ends, what kind of
instruction an instruction is, and what a result of `exec` says of every piece of state.
-/

namespace Sys2Proof.Machine

/-- The state is well formed: memory in its canonical form, the addresses stored to strictly rising, the
reserved bits of SVPSTATE zero (R30, R382), the entry of x0 zero (R21), and the pc even (R27). -/
def State.wf (s : State) : Bool :=
  Memory.wf s.mem && rising s.stored && s.svpRsvd == 0#4 && s.x[0] == 0#64 && !s.pc.getLsbD 0

/-- The run has ended normally: the trap record's cause is EnvironmentCall (R347). -/
def State.endedNormally (s : State) : Bool :=
  match s.trap with
  | some r => r.cause == .environmentCall
  | none => false

/-- SVPSTATE.vl <= SVPSTATE.maxvl <= XLEN (R33). Every prefixed instruction keeps it; a CSR write can break
it. -/
def State.vlBounded (s : State) : Bool := decide (s.vl.toNat ≤ s.maxvl.toNat) && decide (s.maxvl.toNat ≤ xlen)

/-! ### What kind of instruction an instruction is -/

/-- The loop an instruction runs: none, single-predicated (R216) or twin-predicated (R217). -/
inductive LoopKind where
  | none
  | single
  | twin
deriving DecidableEq, Repr

/-- The traits of an instruction that whole-machine statements range over. An unprefixed instruction has the
default context fields. -/
structure Traits where
  loop : LoopKind
  svlen : Svlen
  vltyp : VLtyp
  /-- it may write memory (R172 to R175, R254 to R258) -/
  stores : Bool
  /-- it belongs to a floating-point class (R293) -/
  float : Bool
  /-- it reads or writes SVPSTATE as a CSR (R187 to R192) -/
  csr : Bool
deriving DecidableEq, Repr

/-- The traits of every instruction. -/
def traitsOf : Instr → Traits
  | .lui _ _ => ⟨.none, .subvl, .default, false, false, false⟩
  | .auipc _ _ => ⟨.none, .subvl, .default, false, false, false⟩
  | .addi _ _ _ => ⟨.none, .subvl, .default, false, false, false⟩
  | .slti _ _ _ => ⟨.none, .subvl, .default, false, false, false⟩
  | .sltiu _ _ _ => ⟨.none, .subvl, .default, false, false, false⟩
  | .xori _ _ _ => ⟨.none, .subvl, .default, false, false, false⟩
  | .ori _ _ _ => ⟨.none, .subvl, .default, false, false, false⟩
  | .andi _ _ _ => ⟨.none, .subvl, .default, false, false, false⟩
  | .slli _ _ _ => ⟨.none, .subvl, .default, false, false, false⟩
  | .srli _ _ _ => ⟨.none, .subvl, .default, false, false, false⟩
  | .srai _ _ _ => ⟨.none, .subvl, .default, false, false, false⟩
  | .addiw _ _ _ => ⟨.none, .subvl, .default, false, false, false⟩
  | .slliw _ _ _ => ⟨.none, .subvl, .default, false, false, false⟩
  | .srliw _ _ _ => ⟨.none, .subvl, .default, false, false, false⟩
  | .sraiw _ _ _ => ⟨.none, .subvl, .default, false, false, false⟩
  | .add _ _ _ => ⟨.none, .subvl, .default, false, false, false⟩
  | .sub _ _ _ => ⟨.none, .subvl, .default, false, false, false⟩
  | .sll _ _ _ => ⟨.none, .subvl, .default, false, false, false⟩
  | .slt _ _ _ => ⟨.none, .subvl, .default, false, false, false⟩
  | .sltu _ _ _ => ⟨.none, .subvl, .default, false, false, false⟩
  | .xor _ _ _ => ⟨.none, .subvl, .default, false, false, false⟩
  | .srl _ _ _ => ⟨.none, .subvl, .default, false, false, false⟩
  | .sra _ _ _ => ⟨.none, .subvl, .default, false, false, false⟩
  | .or _ _ _ => ⟨.none, .subvl, .default, false, false, false⟩
  | .and _ _ _ => ⟨.none, .subvl, .default, false, false, false⟩
  | .addw _ _ _ => ⟨.none, .subvl, .default, false, false, false⟩
  | .subw _ _ _ => ⟨.none, .subvl, .default, false, false, false⟩
  | .sllw _ _ _ => ⟨.none, .subvl, .default, false, false, false⟩
  | .srlw _ _ _ => ⟨.none, .subvl, .default, false, false, false⟩
  | .sraw _ _ _ => ⟨.none, .subvl, .default, false, false, false⟩
  | .lb _ _ _ => ⟨.none, .subvl, .default, false, false, false⟩
  | .lh _ _ _ => ⟨.none, .subvl, .default, false, false, false⟩
  | .lw _ _ _ => ⟨.none, .subvl, .default, false, false, false⟩
  | .ld _ _ _ => ⟨.none, .subvl, .default, false, false, false⟩
  | .lbu _ _ _ => ⟨.none, .subvl, .default, false, false, false⟩
  | .lhu _ _ _ => ⟨.none, .subvl, .default, false, false, false⟩
  | .lwu _ _ _ => ⟨.none, .subvl, .default, false, false, false⟩
  | .sb _ _ _ => ⟨.none, .subvl, .default, true, false, false⟩
  | .sh _ _ _ => ⟨.none, .subvl, .default, true, false, false⟩
  | .sw _ _ _ => ⟨.none, .subvl, .default, true, false, false⟩
  | .sd _ _ _ => ⟨.none, .subvl, .default, true, false, false⟩
  | .jal _ _ => ⟨.none, .subvl, .default, false, false, false⟩
  | .jalr _ _ _ => ⟨.none, .subvl, .default, false, false, false⟩
  | .beq _ _ _ => ⟨.none, .subvl, .default, false, false, false⟩
  | .bne _ _ _ => ⟨.none, .subvl, .default, false, false, false⟩
  | .blt _ _ _ => ⟨.none, .subvl, .default, false, false, false⟩
  | .bge _ _ _ => ⟨.none, .subvl, .default, false, false, false⟩
  | .bltu _ _ _ => ⟨.none, .subvl, .default, false, false, false⟩
  | .bgeu _ _ _ => ⟨.none, .subvl, .default, false, false, false⟩
  | .fence _ _ _ => ⟨.none, .subvl, .default, false, false, false⟩
  | .ecall => ⟨.none, .subvl, .default, false, false, false⟩
  | .ebreak => ⟨.none, .subvl, .default, false, false, false⟩
  | .csrrw _ _ _ => ⟨.none, .subvl, .default, false, false, true⟩
  | .csrrs _ _ _ => ⟨.none, .subvl, .default, false, false, true⟩
  | .csrrc _ _ _ => ⟨.none, .subvl, .default, false, false, true⟩
  | .csrrwi _ _ _ => ⟨.none, .subvl, .default, false, false, true⟩
  | .csrrsi _ _ _ => ⟨.none, .subvl, .default, false, false, true⟩
  | .csrrci _ _ _ => ⟨.none, .subvl, .default, false, false, true⟩
  | .p48Lui o _ => ⟨.single, o.svlen, .default, false, false, false⟩
  | .p48Auipc o _ => ⟨.single, o.svlen, .default, false, false, false⟩
  | .p48Addi o _ => ⟨.twin, o.svlen, .default, false, false, false⟩
  | .p48Slti o _ => ⟨.twin, o.svlen, .default, false, false, false⟩
  | .p48Sltiu o _ => ⟨.twin, o.svlen, .default, false, false, false⟩
  | .p48Xori o _ => ⟨.twin, o.svlen, .default, false, false, false⟩
  | .p48Ori o _ => ⟨.twin, o.svlen, .default, false, false, false⟩
  | .p48Andi o _ => ⟨.twin, o.svlen, .default, false, false, false⟩
  | .p48Slli o _ => ⟨.twin, o.svlen, .default, false, false, false⟩
  | .p48Srli o _ => ⟨.twin, o.svlen, .default, false, false, false⟩
  | .p48Srai o _ => ⟨.twin, o.svlen, .default, false, false, false⟩
  | .p48Addiw o _ => ⟨.twin, o.svlen, .default, false, false, false⟩
  | .p48Slliw o _ => ⟨.twin, o.svlen, .default, false, false, false⟩
  | .p48Srliw o _ => ⟨.twin, o.svlen, .default, false, false, false⟩
  | .p48Sraiw o _ => ⟨.twin, o.svlen, .default, false, false, false⟩
  | .p48Add o => ⟨.single, o.svlen, .default, false, false, false⟩
  | .p48Sub o => ⟨.single, o.svlen, .default, false, false, false⟩
  | .p48Sll o => ⟨.single, o.svlen, .default, false, false, false⟩
  | .p48Slt o => ⟨.single, o.svlen, .default, false, false, false⟩
  | .p48Sltu o => ⟨.single, o.svlen, .default, false, false, false⟩
  | .p48Xor o => ⟨.single, o.svlen, .default, false, false, false⟩
  | .p48Srl o => ⟨.single, o.svlen, .default, false, false, false⟩
  | .p48Sra o => ⟨.single, o.svlen, .default, false, false, false⟩
  | .p48Or o => ⟨.single, o.svlen, .default, false, false, false⟩
  | .p48And o => ⟨.single, o.svlen, .default, false, false, false⟩
  | .p48Addw o => ⟨.single, o.svlen, .default, false, false, false⟩
  | .p48Subw o => ⟨.single, o.svlen, .default, false, false, false⟩
  | .p48Sllw o => ⟨.single, o.svlen, .default, false, false, false⟩
  | .p48Srlw o => ⟨.single, o.svlen, .default, false, false, false⟩
  | .p48Sraw o => ⟨.single, o.svlen, .default, false, false, false⟩
  | .p48Lb o _ => ⟨.twin, o.svlen, .default, false, false, false⟩
  | .p48Lh o _ => ⟨.twin, o.svlen, .default, false, false, false⟩
  | .p48Lw o _ => ⟨.twin, o.svlen, .default, false, false, false⟩
  | .p48Ld o _ => ⟨.twin, o.svlen, .default, false, false, false⟩
  | .p48Lbu o _ => ⟨.twin, o.svlen, .default, false, false, false⟩
  | .p48Lhu o _ => ⟨.twin, o.svlen, .default, false, false, false⟩
  | .p48Lwu o _ => ⟨.twin, o.svlen, .default, false, false, false⟩
  | .p48Sb o _ => ⟨.twin, o.svlen, .default, true, false, false⟩
  | .p48Sh o _ => ⟨.twin, o.svlen, .default, true, false, false⟩
  | .p48Sw o _ => ⟨.twin, o.svlen, .default, true, false, false⟩
  | .p48Sd o _ => ⟨.twin, o.svlen, .default, true, false, false⟩
  | .p64Lui o _ v => ⟨.single, o.svlen, v, false, false, false⟩
  | .p64Auipc o _ v => ⟨.single, o.svlen, v, false, false, false⟩
  | .p64Addi o _ v => ⟨.twin, o.svlen, v, false, false, false⟩
  | .p64Slti o _ v => ⟨.twin, o.svlen, v, false, false, false⟩
  | .p64Sltiu o _ v => ⟨.twin, o.svlen, v, false, false, false⟩
  | .p64Xori o _ v => ⟨.twin, o.svlen, v, false, false, false⟩
  | .p64Ori o _ v => ⟨.twin, o.svlen, v, false, false, false⟩
  | .p64Andi o _ v => ⟨.twin, o.svlen, v, false, false, false⟩
  | .p64Slli o _ v => ⟨.twin, o.svlen, v, false, false, false⟩
  | .p64Srli o _ v => ⟨.twin, o.svlen, v, false, false, false⟩
  | .p64Srai o _ v => ⟨.twin, o.svlen, v, false, false, false⟩
  | .p64Addiw o _ v => ⟨.twin, o.svlen, v, false, false, false⟩
  | .p64Slliw o _ v => ⟨.twin, o.svlen, v, false, false, false⟩
  | .p64Srliw o _ v => ⟨.twin, o.svlen, v, false, false, false⟩
  | .p64Sraiw o _ v => ⟨.twin, o.svlen, v, false, false, false⟩
  | .p64Add o _ v => ⟨.single, o.svlen, v, false, false, false⟩
  | .p64Sub o _ v => ⟨.single, o.svlen, v, false, false, false⟩
  | .p64Sll o _ v => ⟨.single, o.svlen, v, false, false, false⟩
  | .p64Slt o _ v => ⟨.single, o.svlen, v, false, false, false⟩
  | .p64Sltu o _ v => ⟨.single, o.svlen, v, false, false, false⟩
  | .p64Xor o _ v => ⟨.single, o.svlen, v, false, false, false⟩
  | .p64Srl o _ v => ⟨.single, o.svlen, v, false, false, false⟩
  | .p64Sra o _ v => ⟨.single, o.svlen, v, false, false, false⟩
  | .p64Or o _ v => ⟨.single, o.svlen, v, false, false, false⟩
  | .p64And o _ v => ⟨.single, o.svlen, v, false, false, false⟩
  | .p64Addw o _ v => ⟨.single, o.svlen, v, false, false, false⟩
  | .p64Subw o _ v => ⟨.single, o.svlen, v, false, false, false⟩
  | .p64Sllw o _ v => ⟨.single, o.svlen, v, false, false, false⟩
  | .p64Srlw o _ v => ⟨.single, o.svlen, v, false, false, false⟩
  | .p64Sraw o _ v => ⟨.single, o.svlen, v, false, false, false⟩
  | .p64Lb o _ v => ⟨.twin, o.svlen, v, false, false, false⟩
  | .p64Lh o _ v => ⟨.twin, o.svlen, v, false, false, false⟩
  | .p64Lw o _ v => ⟨.twin, o.svlen, v, false, false, false⟩
  | .p64Ld o _ v => ⟨.twin, o.svlen, v, false, false, false⟩
  | .p64Lbu o _ v => ⟨.twin, o.svlen, v, false, false, false⟩
  | .p64Lhu o _ v => ⟨.twin, o.svlen, v, false, false, false⟩
  | .p64Lwu o _ v => ⟨.twin, o.svlen, v, false, false, false⟩
  | .p64Sb o _ v => ⟨.twin, o.svlen, v, true, false, false⟩
  | .p64Sh o _ v => ⟨.twin, o.svlen, v, true, false, false⟩
  | .p64Sw o _ v => ⟨.twin, o.svlen, v, true, false, false⟩
  | .p64Sd o _ v => ⟨.twin, o.svlen, v, true, false, false⟩
  | .p48LoadFp o _ _ => ⟨.twin, o.svlen, .default, false, true, false⟩
  | .p48StoreFp o _ _ => ⟨.twin, o.svlen, .default, true, true, false⟩
  | .p48OpFp o => ⟨.single, o.svlen, .default, false, true, false⟩
  | .p48Madd o => ⟨.single, o.svlen, .default, false, true, false⟩
  | .p48Msub o => ⟨.single, o.svlen, .default, false, true, false⟩
  | .p48Nmsub o => ⟨.single, o.svlen, .default, false, true, false⟩
  | .p48Nmadd o => ⟨.single, o.svlen, .default, false, true, false⟩
  | .p64LoadFp o _ _ v => ⟨.twin, o.svlen, v, false, true, false⟩
  | .p64StoreFp o _ _ v => ⟨.twin, o.svlen, v, true, true, false⟩
  | .p64OpFp o _ v => ⟨.single, o.svlen, v, false, true, false⟩
  | .p64Madd o v => ⟨.single, o.svlen, v, false, true, false⟩
  | .p64Msub o v => ⟨.single, o.svlen, v, false, true, false⟩
  | .p64Nmsub o v => ⟨.single, o.svlen, v, false, true, false⟩
  | .p64Nmadd o v => ⟨.single, o.svlen, v, false, true, false⟩

/-- The platform has the options that the two context fields use, and VLtyp does not name x0 as the source of
VL (R7, R306). -/
def Supported (p : Platform) (sv : Svlen) (v : VLtyp) : Prop :=
  (sv ≠ .subvl → p.svlenSupported = true) ∧ (v ≠ .default → p.vltypSupported = true) ∧
    ∀ dest, v ≠ .vlReg dest 0#5

/-! ### Predicates, as bits of x9, x10 and x11 -/

/-- `active(i)` of a pred field (R96, R210): bit i of the register it names is 1, or 0 for a name with "!". -/
def PredActive (s : State) (p : Pred) (i : Nat) : Bool :=
  match p with
  | .none => true
  | .notX9 => !(s.getX 9#7).getLsbD i
  | .x9 => (s.getX 9#7).getLsbD i
  | .notX10 => !(s.getX 10#7).getLsbD i
  | .x10 => (s.getX 10#7).getLsbD i
  | .notX11 => !(s.getX 11#7).getLsbD i
  | .x11 => (s.getX 11#7).getLsbD i

/-- `active(i)` of the source side of a tpred field (R97, R210): x9 or no predicate. -/
def SourceActive (s : State) (t : TPred) (i : Nat) : Bool :=
  match t with
  | .none => true
  | .x9Off => (s.getX 9#7).getLsbD i
  | .offX10 => true
  | .x9X10 => (s.getX 9#7).getLsbD i
  | .tbd => true
  | .notX9Off => !(s.getX 9#7).getLsbD i
  | .offNotX10 => true
  | .notX9NotX10 => !(s.getX 9#7).getLsbD i

/-- `active(i)` of the destination side of a tpred field (R97, R210): x10 or no predicate. -/
def DestActive (s : State) (t : TPred) (i : Nat) : Bool :=
  match t with
  | .none => true
  | .x9Off => true
  | .offX10 => (s.getX 10#7).getLsbD i
  | .x9X10 => (s.getX 10#7).getLsbD i
  | .tbd => true
  | .notX9Off => true
  | .offNotX10 => !(s.getX 10#7).getLsbD i
  | .notX9NotX10 => !(s.getX 10#7).getLsbD i

/-! ### What a result says of every piece of state -/

/-- Everything but the x registers, the pc and SVPSTATE is as before; memory byte by byte. -/
def SameRest (s t : State) : Prop :=
  t.f = s.f ∧ t.fcsr = s.fcsr ∧ (∀ a, Memory.read t.mem a = Memory.read s.mem a) ∧ t.stored = s.stored ∧
    t.trap = s.trap ∧ t.platform = s.platform

/-- The instruction completes: `v` is in register `rd`, unless that is x0, the pc has moved to `pc'`, and
nothing else has changed. -/
def WritesXTo (s : State) (r : Result) (rd : Reg) (v : Word) (pc' : Word) : Prop :=
  ∃ t, r = .next t ∧ t.pc = pc' ∧ t.svpstate = s.svpstate ∧
    (∀ n, t.getX n = if n = rd ∧ rd ≠ 0#7 then v else s.getX n) ∧ SameRest s t

/-- The same with the pc moved past `len` bytes (R26). -/
def WritesX (s : State) (r : Result) (rd : Reg) (v : Word) (len : Nat) : Prop :=
  WritesXTo s r rd v (s.pc + BitVec.ofNat 64 len)

/-- The instruction completes and changes the pc alone. -/
def OnlyJumps (s : State) (r : Result) (pc' : Word) : Prop :=
  ∃ t, r = .next t ∧ t.pc = pc' ∧ t.svpstate = s.svpstate ∧ (∀ n, t.getX n = s.getX n) ∧ SameRest s t

/-- The instruction completes and moves the pc past its `len` bytes alone. -/
def OnlyAdvances (s : State) (r : Result) (len : Nat) : Prop := OnlyJumps s r (s.pc + BitVec.ofNat 64 len)

/-- The instruction takes exception `c` with trap value `v`, and changes nothing but the trap record: the pc
still addresses it (R345, R346). -/
def Traps (s : State) (r : Result) (c : Cause) (v : Word) : Prop :=
  ∃ t, r = .next t ∧ t.trap = some ⟨c, v⟩ ∧ t.pc = s.pc ∧ t.svpstate = s.svpstate ∧
    (∀ n, t.getX n = s.getX n) ∧ t.f = s.f ∧ t.fcsr = s.fcsr ∧
    (∀ a, Memory.read t.mem a = Memory.read s.mem a) ∧ t.stored = s.stored ∧ t.platform = s.platform

/-- The instruction completes: the `n` bytes from `a` upward hold the low `n` bytes of `v`, least significant
first, they are marked as stored to, the pc has moved past `len` bytes, and nothing else has changed. -/
def Stores (s : State) (r : Result) (a : Word) (n : Nat) (v : Quad) (len : Nat) : Prop :=
  ∃ t, r = .next t ∧ t.pc = s.pc + BitVec.ofNat 64 len ∧ t.svpstate = s.svpstate ∧
    (∀ m, t.getX m = s.getX m) ∧ t.f = s.f ∧ t.fcsr = s.fcsr ∧ t.trap = s.trap ∧ t.platform = s.platform ∧
    (∀ k, k < n → Memory.read t.mem (a.toNat + k) = some (v.extractLsb' (8 * k) 8)) ∧
    (∀ b, b < a.toNat ∨ a.toNat + n ≤ b → Memory.read t.mem b = Memory.read s.mem b) ∧
    (∀ b, b ∈ t.stored ↔ b ∈ s.stored ∨ (a.toNat ≤ b ∧ b < a.toNat + n))

/-- The instruction completes: `v` is in f register `rd`, `fl` has been accumulated into fcsr, the pc has
moved past `len` bytes, and nothing else has changed. -/
def WritesF (s : State) (r : Result) (rd : Reg) (v : Quad) (fl : BitVec 5) (len : Nat) : Prop :=
  ∃ t, r = .next t ∧ t.pc = s.pc + BitVec.ofNat 64 len ∧ t.svpstate = s.svpstate ∧
    (∀ n, t.getX n = s.getX n) ∧ (∀ n, t.getF n = if n = rd then v else s.getF n) ∧
    t.fcsr = s.fcsr ||| fl.setWidth 32 ∧ (∀ a, Memory.read t.mem a = Memory.read s.mem a) ∧
    t.stored = s.stored ∧ t.trap = s.trap ∧ t.platform = s.platform

/-! ### The loops as lists of positions -/

/-- The (index, sub-element) pairs a single-predicated loop visits when it starts at 0 (R216): the active
indices in rising order, only the first of them for a scalar destination. -/
def singlePositions (active : Nat → Bool) (vle svl : Nat) (destVec : Bool) : List (Nat × Nat) :=
  let all := (List.range vle).filter active
  (if destVec then all else all.take 1).flatMap (fun i => (List.range svl).map (fun sub => (i, sub)))

/-- The (source index, destination index) pairs a twin-predicated loop visits when it starts at 0 (R215,
R217): active sources are paired in order with active destinations, a scalar source stays on its first active
position, and a scalar destination ends the loop after one pair. -/
def twinPairs (activeS activeD : Nat → Bool) (vle : Nat) (sv dv : Bool) : List (Nat × Nat) :=
  let sources := (List.range vle).filter activeS
  let dests := (List.range vle).filter activeD
  let pairs :=
    if sv then sources.zip dests
    else
      match sources with
      | [] => []
      | i :: _ => dests.map (fun j => (i, j))
  if dv then pairs else pairs.take 1

/-- Elements executed one after another until one raises (R219). -/
def runElements (element : Nat → Nat → State → LoopResult) : List (Nat × Nat) → State → LoopResult
  | [], s => .ok s
  | (i, j) :: rest, s =>
    match element i j s with
    | .error e => .error e
    | .ok s' => runElements element rest s'

/-- One element of a single-predicated loop: its position recorded, then its operation. -/
def markedSingle (fm : Form) (op : Nat → ElementOp) (i sub : Nat) (s : State) : LoopResult :=
  match op i sub (fm.markSingle i sub s) with
  | .error e => .error (fm.markSingle i sub s, e)
  | .ok s' => .ok s'

/-- One sub-vector of a twin-predicated loop: its elements from 0 to svl - 1. -/
def markedTwin (fm : Form) (op : Nat → Nat → ElementOp) (i j : Nat) (s : State) : LoopResult :=
  subLoop (fm.markTwin i j) (op i j) fm.svl 0 s

/-- Register `n` holds part of an operand of `vle` sub-vectors (R205). -/
def inSpan (o : Operand) (vle svl w : Nat) (n : Reg) : Prop :=
  ∃ i sub, i < vle ∧ sub < svl ∧ n.toNat = elemReg xlen o.reg (flatIndex o.vec svl i sub) w

/-- Every element of an operand of `vle` sub-vectors lies in the register file (R205). -/
def spanInFile (o : Operand) (vle svl w : Nat) : Prop :=
  ∀ i sub, i < vle → sub < svl → inFile xlen o.reg (flatIndex o.vec svl i sub) w = true

end Sys2Proof.Machine
end

