-- ==== Sys2Proof/Certificates/Slice0/Obligations.lean ====
section
/-!
DEFINITION. The statements for the provers, and the predicates they share.
-/

namespace Sys2Proof.Machine

/-- Every word of an R-type pattern decodes to its instruction (R72). -/
def DecodesR (f7 : BitVec 7) (f3 : BitVec 3) (op : BitVec 7) (i : BitVec 5 → BitVec 5 → BitVec 5 → Instr) :
    Prop :=
  ∀ rd rs1 rs2, decode (.w32 (f7 ++ rs2 ++ rs1 ++ f3 ++ rd ++ op)) = .ok (i rd rs1 rs2)

/-- Every word of an I-type pattern decodes to its instruction (R72). -/
def DecodesI (f3 : BitVec 3) (op : BitVec 7) (i : BitVec 5 → BitVec 5 → BitVec 12 → Instr) : Prop :=
  ∀ rd rs1 imm, decode (.w32 (imm ++ rs1 ++ f3 ++ rd ++ op)) = .ok (i rd rs1 imm)

/-- Every word of an S-type pattern decodes to its instruction (R72). -/
def DecodesS (f3 : BitVec 3) (op : BitVec 7) (i : BitVec 5 → BitVec 5 → BitVec 12 → Instr) : Prop :=
  ∀ (rs1 rs2 lo : BitVec 5) (hi : BitVec 7),
    decode (.w32 (hi ++ rs2 ++ rs1 ++ f3 ++ lo ++ op)) = .ok (i rs1 rs2 (hi ++ lo))

/-- A word of major opcode `op` and funct3 `f3` that `ok` does not admit decodes to no instruction. -/
def OthersIllegal (op : BitVec 7) (ok : BitVec 32 → Prop) : Prop :=
  ∀ w : BitVec 32, w.extractLsb' 0 7 = op → ¬ok w → ∀ i, decode (.w32 w) ≠ .ok i

/-- An R-type base instruction: its word, and its result in rd (R150 to R164). -/
def RegRule (f7 : BitVec 7) (f3 : BitVec 3) (op : BitVec 7) (i : BitVec 5 → BitVec 5 → BitVec 5 → Instr)
    (fn : Word → Word → Word) : Prop :=
  DecodesR f7 f3 op i ∧
  ∀ rd rs1 rs2 s, WritesX s (exec (i rd rs1 rs2) s) (reg5 rd) (fn (s.getX (reg5 rs1)) (s.getX (reg5 rs2))) 4

/-- An I-type base instruction with a 12-bit immediate: its word, and its result in rd (R137 to R142, R146). -/
def ImmRule (f3 : BitVec 3) (op : BitVec 7) (i : BitVec 5 → BitVec 5 → BitVec 12 → Instr)
    (fn : Word → Word → Word) : Prop :=
  DecodesI f3 op i ∧
  ∀ rd rs1 imm s, WritesX s (exec (i rd rs1 imm) s) (reg5 rd) (fn (s.getX (reg5 rs1)) (imm.signExtend 64)) 4

/-- A shift by an immediate of `k` bits under the fixed bits `top`: its word, and its result in rd (R143 to
R145, R147 to R149). -/
def ShiftRule {k m : Nat} (h : m + k = 12) (top : BitVec m) (f3 : BitVec 3) (op : BitVec 7)
    (i : BitVec 5 → BitVec 5 → BitVec k → Instr) (fn : Word → Nat → Word) : Prop :=
  ∀ rd rs1 (shamt : BitVec k),
    decode (.w32 ((top ++ shamt).cast h ++ rs1 ++ f3 ++ rd ++ op)) = .ok (i rd rs1 shamt) ∧
    ∀ s, WritesX s (exec (i rd rs1 shamt) s) (reg5 rd) (fn (s.getX (reg5 rs1)) shamt.toNat) 4

/-- A load of `n` bytes: its word; its result when the access succeeds; its exception, with rd unwritten,
when `MemRead` raises (R165 to R171, R53). -/
def LoadRule (f3 : BitVec 3) (n : Nat) (i : BitVec 5 → BitVec 5 → BitVec 12 → Instr) (ext : Quad → Word) :
    Prop :=
  DecodesI f3 0b0000011#7 i ∧
  ∀ rd rs1 imm s,
    (∀ m, memRead s (s.getX (reg5 rs1) + imm.signExtend 64) n = .ok m →
      WritesX s (exec (i rd rs1 imm) s) (reg5 rd) (ext m) 4) ∧
    (∀ c v, memRead s (s.getX (reg5 rs1) + imm.signExtend 64) n = .error (.raise c v) →
      Traps s (exec (i rd rs1 imm) s) c v)

/-- A store of `n` bytes: its word; what it stores when the address is aligned and backed; its exception when
it is not (R172 to R175, R54). -/
def StoreRule (f3 : BitVec 3) (n : Nat) (i : BitVec 5 → BitVec 5 → BitVec 12 → Instr) : Prop :=
  DecodesS f3 0b0100011#7 i ∧
  ∀ rs1 rs2 imm s,
    ((s.getX (reg5 rs1) + imm.signExtend 64).toNat % n = 0 →
      (∀ k, k < n → backed s.platform ((s.getX (reg5 rs1) + imm.signExtend 64).toNat + k) = true) →
      Stores s (exec (i rs1 rs2 imm) s) (s.getX (reg5 rs1) + imm.signExtend 64) n
        ((s.getX (reg5 rs2)).setWidth 128) 4) ∧
    ((s.getX (reg5 rs1) + imm.signExtend 64).toNat % n ≠ 0 →
      Traps s (exec (i rs1 rs2 imm) s) .storeAddressMisaligned (s.getX (reg5 rs1) + imm.signExtend 64)) ∧
    ((s.getX (reg5 rs1) + imm.signExtend 64).toNat % n = 0 →
      (∃ k, k < n ∧ backed s.platform ((s.getX (reg5 rs1) + imm.signExtend 64).toNat + k) = false) →
      Traps s (exec (i rs1 rs2 imm) s) .storeAccessFault (s.getX (reg5 rs1) + imm.signExtend 64))

/-- A conditional branch: its word; the target when `taken` holds, the next instruction when it does not
(R178 to R183). -/
def BranchRule (f3 : BitVec 3) (i : BitVec 5 → BitVec 5 → BitVec 13 → Instr) (taken : Word → Word → Prop) :
    Prop :=
  (∀ (rs1 rs2 : BitVec 5) (b12 b11 : BitVec 1) (b10to5 : BitVec 6) (b4to1 : BitVec 4),
    decode (.w32 (b12 ++ b10to5 ++ rs2 ++ rs1 ++ f3 ++ b4to1 ++ b11 ++ 0b1100011#7)) =
      .ok (i rs1 rs2 (b12 ++ b11 ++ b10to5 ++ b4to1 ++ 0#1))) ∧
  ∀ rs1 rs2 offset s,
    (taken (s.getX (reg5 rs1)) (s.getX (reg5 rs2)) →
      OnlyJumps s (exec (i rs1 rs2 offset) s) (s.pc + offset.signExtend 64)) ∧
    (¬taken (s.getX (reg5 rs1)) (s.getX (reg5 rs2)) → OnlyAdvances s (exec (i rs1 rs2 offset) s) 4)

/-- Bit `b` of a CSR write is unsupported on this platform (R36). -/
def Unsupported (p : Platform) (b : Nat) : Prop :=
  28 ≤ b ∨ (p.vltypSupported = false ∧ b < 24) ∨ (p.svlenSupported = false ∧ 24 ≤ b ∧ b < 28)

/-- A CSR instruction that writes `v`: the old SVPSTATE goes to rd and `v` to SVPSTATE, unless the address is
not `CSR_SVPSTATE` or an unsupported bit of `v` is set, when nothing changes (R35, R36). -/
def CsrWriteRule (i : Instr) (rd : BitVec 5) (csr : BitVec 12) (s : State) (v : Word) : Prop :=
  (csr = s.platform.csrSvpstate → (∀ b, b < 64 → Unsupported s.platform b → v.getLsbD b = false) →
    ∃ t, exec i s = .next t ∧ t.pc = s.pc + 4#64 ∧ t.svpstate = v.setWidth 32 ∧
      (∀ n, t.getX n = if n = reg5 rd ∧ reg5 rd ≠ 0#7 then s.svpstate.setWidth 64 else s.getX n) ∧
      SameRest s t) ∧
  (csr = s.platform.csrSvpstate → (∃ b, b < 64 ∧ Unsupported s.platform b ∧ v.getLsbD b = true) →
    Traps s (exec i s) .illegalInstruction i.word) ∧
  (csr ≠ s.platform.csrSvpstate → Traps s (exec i s) .illegalInstruction i.word)

/-- A CSR instruction that only reads (rs1 = x0 or zimm = 0). -/
def CsrReadRule (i : Instr) (rd : BitVec 5) (csr : BitVec 12) (s : State) : Prop :=
  (csr = s.platform.csrSvpstate → WritesX s (exec i s) (reg5 rd) (s.svpstate.setWidth 64) 4) ∧
  (csr ≠ s.platform.csrSvpstate → Traps s (exec i s) .illegalInstruction i.word)

/-- The low `w` bits of a register replaced. -/
def withLow (old : Word) (w : Nat) (v : Word) : Word := putBits old 0 (v.setWidth w)

/-- An element widened to 64 bits: the Unsigned half of `ext` (R209). -/
def zeroExtended (w : Nat) (v : BitVec w) : Word := v.setWidth 64

/-- An element widened to 64 bits: the Signed half of `ext` (R209). -/
def signExtended (w : Nat) (v : BitVec w) : Word := v.signExtend 64

/-- One scalar element of a P48-R instruction, and no element under an inactive predicate (R261, R209). -/
def ElementR48 (mk : ROps 6 → Instr) (ext : (w : Nat) → BitVec w → Word) (fn : Word → Word → Word) : Prop :=
  ∀ o s, o.svlen = .subvl →
    let rd := (operand48 o.rd (o.vs1 || o.vs2)).reg
    let a := ext o.ew.bits ((s.getX (operand48 o.rs1 o.vs1).reg).setWidth o.ew.bits)
    let b := ext o.ew.bits ((s.getX (operand48 o.rs2 o.vs2).reg).setWidth o.ew.bits)
    (PredActive s o.pred 0 = true →
      WritesX s (exec (mk o) s) rd (withLow (s.getX rd) o.ew.bits (fn a b)) 6) ∧
    (PredActive s o.pred 0 = false → OnlyAdvances s (exec (mk o) s) 6)

/-- One scalar element of a P64-R instruction with VLtyp 0 (R261, R301). -/
def ElementR64 (mk : ROps 7 → Bool → VLtyp → Instr) (ext : (w : Nat) → BitVec w → Word)
    (fn : Word → Word → Word) : Prop :=
  ∀ o vd s, o.svlen = .subvl →
    let a := ext o.ew.bits ((s.getX o.rs1).setWidth o.ew.bits)
    let b := ext o.ew.bits ((s.getX o.rs2).setWidth o.ew.bits)
    (PredActive s o.pred 0 = true →
      WritesX s (exec (mk o vd .default) s) o.rd (withLow (s.getX o.rd) o.ew.bits (fn a b)) 8) ∧
    (PredActive s o.pred 0 = false → OnlyAdvances s (exec (mk o vd .default) s) 8)

/-- Both sides of a twin predicate let position 0 run: bit 0 of x9 and of x10 as the field selects them (R97,
R210). -/
def bothActive (s : State) (t : TPred) : Bool := SourceActive s t 0 && DestActive s t 0

/-- One scalar element of a P48-I instruction (R263). -/
def ElementI48 (mk : IOps 6 → Instr) (ext : (w : Nat) → BitVec w → Word) (fn : Word → Word) : Prop :=
  ∀ o s, o.svlen = .subvl →
    let rd := (operand48 o.rd o.vd).reg
    let a := ext o.ew.bits ((s.getX (operand48 o.rs1 o.vs1).reg).setWidth o.ew.bits)
    (bothActive s o.tpred = true →
      WritesX s (exec (mk o) s) rd (withLow (s.getX rd) o.ew.bits (fn a)) 6) ∧
    (bothActive s o.tpred = false → OnlyAdvances s (exec (mk o) s) 6)

/-- One scalar element of a P64-I instruction with VLtyp 0 (R263, R301). -/
def ElementI64 (mk : IOps 7 → VLtyp → Instr) (ext : (w : Nat) → BitVec w → Word) (fn : Word → Word) : Prop :=
  ∀ o s, o.svlen = .subvl →
    let a := ext o.ew.bits ((s.getX o.rs1).setWidth o.ew.bits)
    (bothActive s o.tpred = true →
      WritesX s (exec (mk o .default) s) o.rd (withLow (s.getX o.rd) o.ew.bits (fn a)) 8) ∧
    (bothActive s o.tpred = false → OnlyAdvances s (exec (mk o .default) s) 8)

/-- One scalar element of a P48-U instruction (R266). -/
def ElementU48 (mk : UOps 6 → BitVec 20 → Instr) (value : Word → BitVec 20 → Word) : Prop :=
  ∀ o imm s, o.svlen = .subvl →
    let rd := (operand48 o.rd o.vd).reg
    (PredActive s o.pred 0 = true →
      WritesX s (exec (mk o imm) s) rd (withLow (s.getX rd) o.ew.bits (value s.pc imm)) 6) ∧
    (PredActive s o.pred 0 = false → OnlyAdvances s (exec (mk o imm) s) 6)

/-- One scalar element of a P64-U instruction with VLtyp 0 (R266, R301). -/
def ElementU64 (mk : UOps 7 → BitVec 20 → VLtyp → Instr) (value : Word → BitVec 20 → Word) : Prop :=
  ∀ o imm s, o.svlen = .subvl →
    (PredActive s o.pred 0 = true →
      WritesX s (exec (mk o imm .default) s) o.rd (withLow (s.getX o.rd) o.ew.bits (value s.pc imm)) 8) ∧
    (PredActive s o.pred 0 = false → OnlyAdvances s (exec (mk o imm .default) s) 8)

/-- One element of a prefixed load (R243): its result, its exception, and no access when inactive. `ea` is
the address, S or V alike at position 0 (R242). -/
def LoadElement (s : State) (r : Result) (active : Bool) (rd : Reg) (ea : Word) (mb w : Nat)
    (ext : Quad → Word) (len : Nat) : Prop :=
  (active = true → ∀ m, memRead s ea mb = .ok m → WritesX s r rd (withLow (s.getX rd) w (ext m)) len) ∧
  (active = true → ∀ c v, memRead s ea mb = .error (.raise c v) → Traps s r c v) ∧
  (active = false → OnlyAdvances s r len)

/-- A prefixed load in its P48 and P64 forms, one element (R247 to R253). -/
def LoadElements (mk48 : IOps 6 → BitVec 12 → Instr) (mk64 : IOps 7 → BitVec 12 → VLtyp → Instr) (mb : Nat)
    (ext : Quad → Word) : Prop :=
  (∀ o imm s, o.svlen = .subvl →
    LoadElement s (exec (mk48 o imm) s) (bothActive s o.tpred) (operand48 o.rd o.vd).reg
      (s.getX (operand48 o.rs1 o.vs1).reg + imm.signExtend 64) mb o.ew.bits ext 6) ∧
  (∀ o imm s, o.svlen = .subvl →
    LoadElement s (exec (mk64 o imm .default) s) (bothActive s o.tpred) o.rd
      (s.getX o.rs1 + imm.signExtend 64) mb o.ew.bits ext 8)

/-- One element of a prefixed store (R243): the low `mb` bytes of the zero-extended element, its exceptions,
and no access when inactive. -/
def StoreElement (s : State) (r : Result) (active : Bool) (data : Word) (ea : Word) (mb w : Nat) (len : Nat) :
    Prop :=
  (active = true → ea.toNat % mb = 0 → (∀ k, k < mb → backed s.platform (ea.toNat + k) = true) →
    Stores s r ea mb ((data.setWidth w).setWidth 128) len) ∧
  (active = true → ea.toNat % mb ≠ 0 → Traps s r .storeAddressMisaligned ea) ∧
  (active = true → ea.toNat % mb = 0 → (∃ k, k < mb ∧ backed s.platform (ea.toNat + k) = false) →
    Traps s r .storeAccessFault ea) ∧
  (active = false → OnlyAdvances s r len)

/-- A prefixed store in its P48 and P64 forms, one element (R254 to R257). -/
def StoreElements (mk48 : SOps 6 → BitVec 12 → Instr) (mk64 : SOps 7 → BitVec 12 → VLtyp → Instr)
    (mb : Nat) : Prop :=
  (∀ o imm s, o.svlen = .subvl →
    StoreElement s (exec (mk48 o imm) s) (bothActive s o.tpred) (s.getX (operand48 o.rs2 o.vs2).reg)
      (s.getX (operand48 o.rs1 o.vs1).reg + imm.signExtend 64) mb o.ew.bits 6) ∧
  (∀ o imm s, o.svlen = .subvl →
    StoreElement s (exec (mk64 o imm .default) s) (bothActive s o.tpred) (s.getX o.rs2)
      (s.getX o.rs1 + imm.signExtend 64) mb o.ew.bits 8)

/-- A prefixed integer instruction of any form completes when every element of its operands lies in the
register file: the pc moves on, the indices it used are zero, VL and MAXVL are those VLtyp gives, no register
outside rd's span and VLdest changes, and nothing else changes. `s1` is the state after VLtyp and svlen. -/
def CompletesVector (s : State) (r : Result) (fm : Form) (twin : Bool) (rd : Operand) (w : Nat)
    (sources : List Operand) : Prop :=
  let s1 := beginPrefixed fm s
  Supported s.platform fm.svlen fm.vltyp → spanInFile rd (fm.vle s1) fm.svl w →
  (∀ o, o ∈ sources → spanInFile o (fm.vle s1) fm.svl w) →
    ∃ t, r = .next t ∧ t.pc = s.pc + BitVec.ofNat 64 fm.ilen ∧ t.vl = s1.vl ∧ t.maxvl = s1.maxvl ∧
      t.subvl = s1.subvl ∧ t.srcoffs = (if fm.ctxVL then 0#6 else s.srcoffs) ∧
      t.destoffs = (if fm.ctxVL && twin then 0#6 else s.destoffs) ∧
      t.dsvoffs = (if fm.ctxSV then 0#2 else s.dsvoffs) ∧ t.svpRsvd = s.svpRsvd ∧
      (∀ n, ¬inSpan rd (fm.vle s1) fm.svl w n → t.getX n = s1.getX n) ∧ SameRest s t

/-- A P48-R and P64-R instruction of any form. -/
def CompletesR (mk48 : ROps 6 → Instr) (mk64 : ROps 7 → Bool → VLtyp → Instr) : Prop :=
  (∀ o s, CompletesVector s (exec (mk48 o) s) (form48 (mk48 o) o.svlen) false
    (operand48 o.rd (o.vs1 || o.vs2)) o.ew.bits [operand48 o.rs1 o.vs1, operand48 o.rs2 o.vs2]) ∧
  (∀ o vd v s, CompletesVector s (exec (mk64 o vd v) s) (form64 (mk64 o vd v) o.svlen v) false
    (operand64 o.rd vd) o.ew.bits [operand64 o.rs1 o.vs1, operand64 o.rs2 o.vs2])

/-- A P48-I and P64-I instruction of any form. -/
def CompletesI {k : Nat} (mk48 : IOps 6 → BitVec k → Instr) (mk64 : IOps 7 → BitVec k → VLtyp → Instr) :
    Prop :=
  (∀ o a s, CompletesVector s (exec (mk48 o a) s) (form48 (mk48 o a) o.svlen) true
    (operand48 o.rd o.vd) o.ew.bits [operand48 o.rs1 o.vs1]) ∧
  (∀ o a v s, CompletesVector s (exec (mk64 o a v) s) (form64 (mk64 o a v) o.svlen v) true
    (operand64 o.rd o.vd) o.ew.bits [operand64 o.rs1 o.vs1])

/-- A P48-U and P64-U instruction of any form. -/
def CompletesU (mk48 : UOps 6 → BitVec 20 → Instr) (mk64 : UOps 7 → BitVec 20 → VLtyp → Instr) : Prop :=
  (∀ o a s, CompletesVector s (exec (mk48 o a) s) (form48 (mk48 o a) o.svlen) false
    (operand48 o.rd o.vd) o.ew.bits []) ∧
  (∀ o a v s, CompletesVector s (exec (mk64 o a v) s) (form64 (mk64 o a v) o.svlen v) false
    (operand64 o.rd o.vd) o.ew.bits [])

/-- The element-wise result of a P64-R instruction with every operand a vector and the loop starting at 0, its
destination registers apart from x0 and from its source registers: where the predicate, as it is after VLtyp, is
active, each element of the destination is the function of the same elements of the sources; where it is not,
the element keeps its value (R202, R209, R211 to R213). -/
def VectorElementsR (mk : ROps 7 → Bool → VLtyp → Instr) (ext : (w : Nat) → BitVec w → Word)
    (fn : Word → Word → Word) : Prop :=
  ∀ o v s, v ≠ .default → o.vs1 = true → o.vs2 = true → o.rd ≠ 0#7 →
    let s1 := applyVLtyp v s
    let svl := o.svlen.code.toNat + 1
    let w := o.ew.bits
    Supported s.platform o.svlen v → s.srcoffs = 0#6 → (o.svlen ≠ .subvl → s.dsvoffs = 0#2) →
    spanInFile (operand64 o.rd true) s1.vl.toNat svl w →
    spanInFile (operand64 o.rs1 true) s1.vl.toNat svl w →
    spanInFile (operand64 o.rs2 true) s1.vl.toNat svl w →
    (∀ n, inSpan (operand64 o.rd true) s1.vl.toNat svl w n →
      ¬inSpan (operand64 o.rs1 true) s1.vl.toNat svl w n ∧
      ¬inSpan (operand64 o.rs2 true) s1.vl.toNat svl w n) →
    ∃ t, exec (mk o true v) s = .next t ∧ t.pc = s.pc + 8#64 ∧
      ∀ i sub, i < s1.vl.toNat → sub < svl →
        let k := i * svl + sub
        elemRd t o.rd k w =
          if PredActive s1 o.pred i then
            (fn (ext w (elemRd s1 o.rs1 k w)) (ext w (elemRd s1 o.rs2 k w))).setWidth w
          else elemRd s1 o.rd k w

/-- A P64-I instruction from sub-element 0 with rd = x127, 64-bit elements, no predicate, VLtyp 0, a nonzero
svlen and any scalar and vector flags: the first sub-element is written to x127 and the second, past x127,
raises (R205, R219). -/
def RaisesPastX127 {k : Nat} (mk : IOps 7 → BitVec k → VLtyp → Instr) (fn : BitVec k → Word → Word) : Prop :=
  ∀ rs1 vd vs1 sv a s, s.platform.svlenSupported = true → s.dsvoffs = 0#2 → sv ≠ .subvl →
    let o : IOps 7 := ⟨127#7, rs1, vd, vs1, .e64, .none, sv⟩
    ∃ t, exec (mk o a .default) s = .next t ∧
      t.trap = some ⟨.illegalInstruction, (mk o a .default).word⟩ ∧ t.pc = s.pc ∧
      (∀ n, t.getX n = if n = 127#7 then fn a (s.getX rs1) else s.getX n) ∧
      t.dsvoffs = 1#2 ∧ t.subvl = sv.code ∧ t.vl = s.vl ∧ t.maxvl = s.maxvl ∧ t.srcoffs = s.srcoffs ∧
      t.destoffs = s.destoffs ∧ t.svpRsvd = s.svpRsvd ∧ t.f = s.f ∧ t.fcsr = s.fcsr ∧
      (∀ b, Memory.read t.mem b = Memory.read s.mem b) ∧ t.stored = s.stored ∧ t.platform = s.platform

/-- Address of sub-element `sub` at memory index `i` of a load or store (R242), its registers read in `s1`: a
vector base holds one address for each index; a scalar base is the first address of consecutive elements. -/
def elementAddress (s1 : State) (base : Operand) (imm : Word) (svl mb i sub : Nat) : Word :=
  if base.vec then s1.getX (BitVec.ofNat 7 (base.reg.toNat + i)) + imm + BitVec.ofNat 64 (sub * mb)
  else s1.getX base.reg + imm + BitVec.ofNat 64 ((i * svl + sub) * mb)

/-- What VLtyp, svlen and a loop that began at index 0 leave in SVPSTATE: VL and MAXVL of VLtyp, subvl of svlen,
the rest as it was (R34, R218, R303). -/
def SvpstateAfter (s t : State) (sv : Svlen) (v : VLtyp) : Prop :=
  t.vl = (applyVLtyp v s).vl ∧ t.maxvl = (applyVLtyp v s).maxvl ∧
    t.subvl = (if sv = .subvl then s.subvl else sv.code) ∧ t.srcoffs = s.srcoffs ∧ t.destoffs = s.destoffs ∧
    t.dsvoffs = s.dsvoffs ∧ t.svpRsvd = s.svpRsvd

/-- Positions that a twin-predicated loop with every predicate bit active runs: all below VL, or one of them
for a scalar destination side; without a loop context there is one (R200, R215). -/
def positions (s1 : State) (v : VLtyp) (destVec : Bool) : Nat :=
  let n := if v = .default then 1 else s1.vl.toNat
  if destVec then n else min n 1

/-- The loop may run: its options are present, it starts at index 0 where it has a context, and every position
is active on both sides under the predicates as they are after VLtyp. -/
def LoopFromZero (s : State) (sv : Svlen) (v : VLtyp) (tp : TPred) : Prop :=
  Supported s.platform sv v ∧ (v ≠ .default → s.srcoffs = 0#6 ∧ s.destoffs = 0#6) ∧
    (sv ≠ .subvl → s.dsvoffs = 0#2) ∧
    ∀ i, i < (if v = .default then 1 else (applyVLtyp v s).vl.toNat) →
      SourceActive (applyVLtyp v s) tp i = true ∧ DestActive (applyVLtyp v s) tp i = true

/-- A prefixed load, scalar, unit-stride or gather, when every read succeeds and the base registers are not
loaded into: element `i * svl + sub` of rd is the extended value read at its address, cut to the element
width; nothing else changes but what VLtyp and svlen change (R241 to R243). -/
def VectorLoad (s : State) (r : Result) (sv : Svlen) (v : VLtyp) (tp : TPred) (mb : Nat) (ext : Quad → Word)
    (w : Nat) (rd base : Operand) (imm : Word) (len : Nat) : Prop :=
  let s1 := applyVLtyp v s
  let svl := sv.code.toNat + 1
  let cnt := positions s1 v rd.vec
  let regOf := fun k => rd.reg.toNat + k * w / 64
  ∀ m : Nat → Nat → Quad, LoopFromZero s sv v tp →
    (∀ k, k < cnt * svl → regOf k ≤ 127) →
    (base.vec = true → base.reg.toNat + cnt ≤ 128) →
    (∀ i k, i < cnt → k < cnt * svl →
      let b := base.reg.toNat + (if base.vec then i else 0)
      b ≠ 0 → b ≠ regOf k) →
    (∀ i sub, i < cnt → sub < svl → memRead s (elementAddress s1 base imm svl mb i sub) mb = .ok (m i sub)) →
    ∃ t, r = .next t ∧ t.pc = s.pc + BitVec.ofNat 64 len ∧ SvpstateAfter s t sv v ∧ SameRest s t ∧
      (∀ i sub, i < cnt → sub < svl →
        elemRd t rd.reg (i * svl + sub) w =
          if regOf (i * svl + sub) = 0 then 0#w else (ext (m i sub)).setWidth w) ∧
      (∀ k, cnt * svl ≤ k → regOf k ≤ 127 → elemRd t rd.reg k w = elemRd s1 rd.reg k w) ∧
      (∀ g : Reg, (∀ k, k < cnt * svl → g.toNat ≠ regOf k) → t.getX g = s1.getX g)

/-- A prefixed load in its P48 and P64 forms. -/
def VectorLoads (mk48 : IOps 6 → BitVec 12 → Instr) (mk64 : IOps 7 → BitVec 12 → VLtyp → Instr) (mb : Nat)
    (ext : Quad → Word) : Prop :=
  (∀ o imm s, VectorLoad s (exec (mk48 o imm) s) o.svlen .default o.tpred mb ext o.ew.bits
    (operand48 o.rd o.vd) (operand48 o.rs1 o.vs1) (imm.signExtend 64) 6) ∧
  (∀ o imm v s, VectorLoad s (exec (mk64 o imm v) s) o.svlen v o.tpred mb ext o.ew.bits
    (operand64 o.rd o.vd) (operand64 o.rs1 o.vs1) (imm.signExtend 64) 8)

/-- A prefixed store, scalar, unit-stride or scatter, when every address is aligned and backed and no two are
the same: the bytes at each address are the low bytes of the zero-extended element; no other byte changes, and
no register but VLdest (R241 to R243). -/
def VectorStore (s : State) (r : Result) (sv : Svlen) (v : VLtyp) (tp : TPred) (mb w : Nat)
    (data base : Operand) (imm : Word) (len : Nat) : Prop :=
  let s1 := applyVLtyp v s
  let svl := sv.code.toNat + 1
  let cnt := positions s1 v (data.vec || base.vec)
  let ea := fun i sub => (elementAddress s1 base imm svl mb i sub).toNat
  let elem := fun i sub => (if data.vec then i * svl else 0) + sub
  LoopFromZero s sv v tp →
    (∀ i sub, i < cnt → sub < svl → data.reg.toNat + elem i sub * w / 64 ≤ 127) →
    (base.vec = true → base.reg.toNat + cnt ≤ 128) →
    (∀ i sub, i < cnt → sub < svl →
      ea i sub % mb = 0 ∧ ∀ b, b < mb → backed s.platform (ea i sub + b) = true) →
    (∀ i sub i' sub', i < cnt → sub < svl → i' < cnt → sub' < svl → ea i sub = ea i' sub' →
      i = i' ∧ sub = sub') →
    ∃ t, r = .next t ∧ t.pc = s.pc + BitVec.ofNat 64 len ∧ SvpstateAfter s t sv v ∧
      (∀ i sub b, i < cnt → sub < svl → b < mb →
        Memory.read t.mem (ea i sub + b) =
          some (((elemRd s1 data.reg (elem i sub) w).setWidth 64).extractLsb' (8 * b) 8)) ∧
      (∀ a, (∀ i sub, i < cnt → sub < svl → a < ea i sub ∨ ea i sub + mb ≤ a) →
        Memory.read t.mem a = Memory.read s.mem a) ∧
      (∀ g, t.getX g = s1.getX g) ∧ t.f = s.f ∧ t.fcsr = s.fcsr ∧ t.trap = s.trap ∧
      t.platform = s.platform ∧
      (∀ a, a ∈ t.stored ↔ a ∈ s.stored ∨
        ∃ i sub, i < cnt ∧ sub < svl ∧ ea i sub ≤ a ∧ a < ea i sub + mb)

/-- A prefixed store in its P48 and P64 forms. -/
def VectorStores (mk48 : SOps 6 → BitVec 12 → Instr) (mk64 : SOps 7 → BitVec 12 → VLtyp → Instr)
    (mb : Nat) : Prop :=
  (∀ o imm s, VectorStore s (exec (mk48 o imm) s) o.svlen .default o.tpred mb o.ew.bits
    (operand48 o.rs2 o.vs2) (operand48 o.rs1 o.vs1) (imm.signExtend 64) 6) ∧
  (∀ o imm v s, VectorStore s (exec (mk64 o imm v) s) o.svlen v o.tpred mb o.ew.bits
    (operand64 o.rs2 o.vs2) (operand64 o.rs1 o.vs1) (imm.signExtend 64) 8)

/-- A floating-point instruction is illegal without `HAS_F` (R280). -/
def IllegalWithoutF (i : Instr) : Prop :=
  ∀ s, s.platform.hasF = false → Traps s (exec i s) .illegalInstruction i.word

/-- The low bits of an f register replaced. -/
def withLowF (old : Quad) (w : Nat) (v : Quad) : Quad := putBits old 0 (v.setWidth w)

/-- The next step runs the 32-bit word `w`. -/
def Runs32 (s : State) (w : BitVec 32) : Prop :=
  s.trap = none ∧ s.pc.getLsbD 0 = false ∧ fetch s = .ok (.w32 w)

/-- One element of a fused multiply-add, its arithmetic left open (R289, R284); a format wider than FLEN is
illegal (log 24). -/
def FusedElement (s : State) (r : Result) (active : Bool) (word : Word) (base : BitVec 32) (fmt : BitVec 2)
    (rd rs1 rs2 rs3 : Reg) (len : Nat) : Prop :=
  s.platform.hasF = true →
    (s.platform.flen.bits < fmtWidth fmt → Traps s r .illegalInstruction word) ∧
    (fmtWidth fmt ≤ s.platform.flen.bits →
    let low := fun n => ((s.getF n).setWidth (fmtWidth fmt)).setWidth 128
    let res := Config.fpOp base (s.fcsr.extractLsb' 5 3) [low rs1, low rs2, low rs3]
    (active = true → WritesF s r rd (withLowF (s.getF rd) (fmtWidth fmt) res.1) res.2 len) ∧
    (active = false → OnlyAdvances s r len))

/-- A fused multiply-add in its P48, P64 and unprefixed forms, one element. -/
def FusedElements (op : BitVec 7) (mk48 : FR4Ops 6 → Instr) (mk64 : FR4Ops 7 → VLtyp → Instr) : Prop :=
  (∀ o s, o.svlen = .subvl →
    FusedElement s (exec (mk48 o) s) (PredActive s o.pred 0) (mk48 o).word (o.base op) o.fmt
      (operand48 o.rd (o.vs2 || o.vs3)).reg (operand48 o.rs1 (o.vs2 || o.vs3)).reg
      (operand48 o.rs2 o.vs2).reg (operand48 o.rs3 o.vs3).reg 6) ∧
  (∀ o s, o.svlen = .subvl →
    FusedElement s (exec (mk64 o .default) s) (PredActive s o.pred 0) (mk64 o .default).word (o.base op) o.fmt
      o.rd o.rs1 o.rs2 o.rs3 8) ∧
  (∀ s w, Runs32 s w → w.extractLsb' 0 7 = op →
    FusedElement s (step s) true (w.setWidth 64) w (w.extractLsb' 25 2) (reg5 (w.extractLsb' 7 5))
      (reg5 (w.extractLsb' 15 5)) (reg5 (w.extractLsb' 20 5)) (reg5 (w.extractLsb' 27 5)) 4)

/-- An instruction that may write an x and an f register completes: `t` differs from `s` in the pc, in the x
register `rd` (unless that is x0) and in the flags of fcsr. -/
def WritesXFlags (s : State) (r : Result) (rd : Reg) (v : Word) (fl : BitVec 5) (len : Nat) : Prop :=
  ∃ t, r = .next t ∧ t.pc = s.pc + BitVec.ofNat 64 len ∧ t.svpstate = s.svpstate ∧
    (∀ n, t.getX n = if n = rd ∧ rd ≠ 0#7 then v else s.getX n) ∧ t.f = s.f ∧
    t.fcsr = s.fcsr ||| fl.setWidth 32 ∧ (∀ a, Memory.read t.mem a = Memory.read s.mem a) ∧
    t.stored = s.stored ∧ t.trap = s.trap ∧ t.platform = s.platform

/-- One element of an OP-FP instruction with its arithmetic left open (R285, R284): `shape` names the file
and width of each operand. Without a shape, or with an operand wider than FLEN, the instruction is illegal (log
12, log 24). -/
def OpFpElement (s : State) (r : Result) (active : Bool) (word : Word) (base : BitVec 32)
    (shape : Option FpShape) (rd rs1 rs2 : Reg) (len : Nat) : Prop :=
  (shape = none → Traps s r .illegalInstruction word) ∧
  (∀ sh, shape = some sh → sh.fits s.platform = false → Traps s r .illegalInstruction word) ∧
  ∀ sh, shape = some sh → s.platform.hasF = true → sh.fits s.platform = true →
    let value : ElemType → Reg → Quad := fun t n =>
      match t.file with
      | .x => ((s.getX n).setWidth t.width).setWidth 128
      | .f => ((s.getF n).setWidth t.width).setWidth 128
    let srcs :=
      match sh.src2 with
      | none => [value sh.src1 rs1]
      | some t => [value sh.src1 rs1, value t rs2]
    let res := Config.fpOp base (s.fcsr.extractLsb' 5 3) srcs
    (active = true → sh.dest.file = .f →
      WritesF s r rd (withLowF (s.getF rd) sh.dest.width res.1) res.2 len) ∧
    (active = true → sh.dest.file = .x →
      WritesXFlags s r rd (withLow (s.getX rd) sh.dest.width (res.1.setWidth 64)) res.2 len) ∧
    (active = false → OnlyAdvances s r len)

/-- One element of a floating-point load: the bits move unchanged (R286). -/
def FpLoadElement (s : State) (r : Result) (active : Bool) (word : Word) (rd : Reg) (ea : Word)
    (mb len : Nat) : Prop :=
  (s.platform.flen.bits < 8 * mb → Traps s r .illegalInstruction word) ∧
  (s.platform.hasF = true → 8 * mb ≤ s.platform.flen.bits →
    (active = true → ∀ m, memRead s ea mb = .ok m →
      WritesF s r rd (withLowF (s.getF rd) (8 * mb) m) 0#5 len) ∧
    (active = true → ∀ c v, memRead s ea mb = .error (.raise c v) → Traps s r c v) ∧
    (active = false → OnlyAdvances s r len))

/-- One element of a floating-point store (R286). -/
def FpStoreElement (s : State) (r : Result) (active : Bool) (word : Word) (rs2 : Reg) (ea : Word)
    (mb len : Nat) : Prop :=
  (s.platform.flen.bits < 8 * mb → Traps s r .illegalInstruction word) ∧
  (s.platform.hasF = true → 8 * mb ≤ s.platform.flen.bits →
    (active = true → ea.toNat % mb = 0 → (∀ k, k < mb → backed s.platform (ea.toNat + k) = true) →
      Stores s r ea mb (((s.getF rs2).setWidth (8 * mb)).setWidth 128) len) ∧
    (active = true → ea.toNat % mb ≠ 0 → Traps s r .storeAddressMisaligned ea) ∧
    (active = true → ea.toNat % mb = 0 → (∃ k, k < mb ∧ backed s.platform (ea.toNat + k) = false) →
      Traps s r .storeAccessFault ea) ∧
    (active = false → OnlyAdvances s r len))

/-- Parcels of the instruction whose first parcel is `p` (R71); 1 for the lengths that no instruction has. -/
def parcelCount (p : BitVec 16) : Nat :=
  if p.extractLsb' 0 2 ≠ 0b11#2 then 1
  else if p.extractLsb' 2 3 ≠ 0b111#3 then 2
  else if p.getLsbD 5 = false then 3
  else if p.getLsbD 6 = false then 4
  else 1

/-- `n` bytes of memory from `a` upward are `bs`, backed, and not stored to by the program. -/
def Placed (s : State) (a : Nat) (bs : List Byte) : Prop :=
  ∀ k (h : k < bs.length), Memory.read s.mem (a + k) = some bs[k] ∧ backed s.platform (a + k) = true ∧
    a + k ∉ s.stored

end Sys2Proof.Machine

open Sys2Proof Sys2Proof.Machine

/-- For every state, reading x0 gives 0 and writing it changes nothing; an element that lies in x0 reads as 0 and writing it changes nothing; a write to any other register is read back and leaves every other register, the pc, SVPSTATE and everything else alone. -/
def Obligations.X0Hardwired : Prop :=
  (∀ s v, State.getX s 0#7 = 0#64 ∧ State.setX s 0#7 v = s) ∧
  (∀ s n k w (v : BitVec w), elemReg xlen n k w = 0 → elemRd s n k w = 0#w ∧ elemWr s n k v = s) ∧
  (∀ s n v, n ≠ 0#7 →
    (∀ m, (State.setX s n v).getX m = if m = n then v else s.getX m) ∧ (State.setX s n v).pc = s.pc ∧
    (State.setX s n v).svpstate = s.svpstate ∧ SameRest s (State.setX s n v))

/-- For every width w of 8, 16, 32 or 64: element k of an operand at register n is bits lo+w-1:lo of register g = n + k*w/64 with lo = k*w mod 64; a write replaces exactly those bits (none in x0) and touches no other register; the element is in the file exactly when g is at most 127. -/
def Obligations.ElementReadsAndWrites : Prop :=
  ∀ s n k w (v : BitVec w), w = 8 ∨ w = 16 ∨ w = 32 ∨ w = 64 →
    let g := n.toNat + k * w / 64
    let lo := k * w % 64
    (inFile xlen n k w = true ↔ g ≤ 127) ∧
    (g ≤ 127 →
      (∀ b, b < w → (elemRd s n k w).getLsbD b = (s.getX (BitVec.ofNat 7 g)).getLsbD (lo + b)) ∧
      (∀ m, m ≠ BitVec.ofNat 7 g → (elemWr s n k v).getX m = s.getX m) ∧
      (g ≠ 0 → ∀ b, ((elemWr s n k v).getX (BitVec.ofNat 7 g)).getLsbD b =
        if lo ≤ b ∧ b < lo + w then v.getLsbD (b - lo) else (s.getX (BitVec.ofNat 7 g)).getLsbD b) ∧
      (g = 0 → elemWr s n k v = s))

/-- For every width of 8, 16, 32 or 64 and every element of an operand outside x0: after elem_wr the element reads as written and every other element of the operand reads as before. -/
def Obligations.ElementReadBack : Prop :=
  ∀ s n k j w (v : BitVec w), w = 8 ∨ w = 16 ∨ w = 32 ∨ w = 64 →
    inFile xlen n k w = true → inFile xlen n j w = true → n ≠ 0#7 →
    elemRd (elemWr s n k v) n j w = if j = k then v else elemRd s n j w

/-- A P48 scalar operand names register r, a P48 vector operand names {r[0], r[5:1], 0}, and a P64 operand names r. -/
def Obligations.VectorRegisterNumbers : Prop :=
  (∀ r : BitVec 6, (operand48 r false).reg.toNat = r.toNat ∧
    (operand48 r true).reg.toNat = 64 * (r.toNat % 2) + 2 * (r.toNat / 2)) ∧
  (∀ (r : BitVec 7) (vec : Bool), (operand64 r vec).reg = r)

/-- For n in 1, 2, 4, 8: MemRead raises LoadAddressMisaligned when a is not a multiple of n; else LoadAccessFault when a byte is not backed; else, when every byte holds a value, it answers the value whose bits 8k+7:8k are byte k. -/
def Obligations.MemReadMeans : Prop :=
  ∀ s a n, n = 1 ∨ n = 2 ∨ n = 4 ∨ n = 8 →
    (a.toNat % n ≠ 0 → memRead s a n = .error (.raise .loadAddressMisaligned a)) ∧
    (a.toNat % n = 0 → (∃ k, k < n ∧ backed s.platform (a.toNat + k) = false) →
      memRead s a n = .error (.raise .loadAccessFault a)) ∧
    (a.toNat % n = 0 → (∀ k, k < n → backed s.platform (a.toNat + k) = true) →
      (∀ k, k < n → ∃ b, Memory.read s.mem (a.toNat + k) = some b) →
      ∃ v, memRead s a n = .ok v ∧
        (∀ k, k < n → Memory.read s.mem (a.toNat + k) = some (v.extractLsb' (8 * k) 8)) ∧
        (∀ b, 8 * n ≤ b → v.getLsbD b = false))

/-- For n in 1, 2, 4, 8: MemWrite raises StoreAddressMisaligned when a is not a multiple of n; else StoreAccessFault when a byte is not backed; else it replaces exactly the n bytes, least significant first. -/
def Obligations.MemWriteMeans : Prop :=
  ∀ s a n v, n = 1 ∨ n = 2 ∨ n = 4 ∨ n = 8 →
    (a.toNat % n ≠ 0 → memWrite s a n v = .error (.raise .storeAddressMisaligned a)) ∧
    (a.toNat % n = 0 → (∃ k, k < n ∧ backed s.platform (a.toNat + k) = false) →
      memWrite s a n v = .error (.raise .storeAccessFault a)) ∧
    (a.toNat % n = 0 → (∀ k, k < n → backed s.platform (a.toNat + k) = true) →
      ∃ t, memWrite s a n v = .ok t ∧
        (∀ k, k < n → Memory.read t.mem (a.toNat + k) = some (v.extractLsb' (8 * k) 8)) ∧
        (∀ b, b < a.toNat ∨ a.toNat + n ≤ b → Memory.read t.mem b = Memory.read s.mem b) ∧
        t.pc = s.pc ∧ t.svpstate = s.svpstate ∧ (∀ m, t.getX m = s.getX m))

/-- After a MemWrite of n bytes, a MemRead of n bytes at the same address answers the low 8n bits of the value, and a MemRead of any width at an address range apart from it answers as before. -/
def Obligations.MemReadAfterWrite : Prop :=
  ∀ s t a n v, n = 1 ∨ n = 2 ∨ n = 4 ∨ n = 8 → memWrite s a n v = .ok t →
    memRead t a n = .ok ((v.setWidth (8 * n)).setWidth 128) ∧
    (∀ b m, b.toNat + m ≤ a.toNat ∨ a.toNat + n ≤ b.toNat → memRead t b m = memRead s b m)

/-- Each of ADD, SUB, SLL, SLT, SLTU, XOR, SRL, SRA, OR and AND has the word its rule gives, writes its function of x[rs1] and x[rs2] to x[rd] (nothing when rd is x0), advances the pc by 4 and changes nothing else. -/
def Obligations.BaseRegister : Prop :=
  RegRule 0b0000000#7 0b000#3 0b0110011#7 Instr.add (fun a b => a + b) ∧
  RegRule 0b0100000#7 0b000#3 0b0110011#7 Instr.sub (fun a b => a - b) ∧
  RegRule 0b0000000#7 0b001#3 0b0110011#7 Instr.sll (fun a b => a <<< (b.toNat % 64)) ∧
  RegRule 0b0000000#7 0b010#3 0b0110011#7 Instr.slt (fun a b => if a.toInt < b.toInt then 1#64 else 0#64) ∧
  RegRule 0b0000000#7 0b011#3 0b0110011#7 Instr.sltu (fun a b => if a.toNat < b.toNat then 1#64 else 0#64) ∧
  RegRule 0b0000000#7 0b100#3 0b0110011#7 Instr.xor (fun a b => a ^^^ b) ∧
  RegRule 0b0000000#7 0b101#3 0b0110011#7 Instr.srl (fun a b => a >>> (b.toNat % 64)) ∧
  RegRule 0b0100000#7 0b101#3 0b0110011#7 Instr.sra (fun a b => a.sshiftRight (b.toNat % 64)) ∧
  RegRule 0b0000000#7 0b110#3 0b0110011#7 Instr.or (fun a b => a ||| b) ∧
  RegRule 0b0000000#7 0b111#3 0b0110011#7 Instr.and (fun a b => a &&& b)

/-- Each of ADDW, SUBW, SLLW, SRLW and SRAW has the word its rule gives, writes the sign-extended 32-bit result to x[rd], advances the pc by 4 and changes nothing else; every other funct7 and funct3 pair in OP-32 decodes to no instruction. -/
def Obligations.BaseRegisterWord : Prop :=
  RegRule 0b0000000#7 0b000#3 0b0111011#7 Instr.addw (fun a b => ((a + b).setWidth 32).signExtend 64) ∧
  RegRule 0b0100000#7 0b000#3 0b0111011#7 Instr.subw (fun a b => ((a - b).setWidth 32).signExtend 64) ∧
  RegRule 0b0000000#7 0b001#3 0b0111011#7 Instr.sllw (fun a b => ((a.setWidth 32) <<< (b.toNat % 32)).signExtend 64) ∧
  RegRule 0b0000000#7 0b101#3 0b0111011#7 Instr.srlw (fun a b => ((a.setWidth 32) >>> (b.toNat % 32)).signExtend 64) ∧
  RegRule 0b0100000#7 0b101#3 0b0111011#7 Instr.sraw (fun a b => ((a.setWidth 32).sshiftRight (b.toNat % 32)).signExtend 64) ∧
  OthersIllegal 0b0111011#7 (fun w =>
    (w.extractLsb' 25 7 = 0b0000000#7 ∧
      (w.extractLsb' 12 3 = 0b000#3 ∨ w.extractLsb' 12 3 = 0b001#3 ∨ w.extractLsb' 12 3 = 0b101#3)) ∨
    (w.extractLsb' 25 7 = 0b0100000#7 ∧ (w.extractLsb' 12 3 = 0b000#3 ∨ w.extractLsb' 12 3 = 0b101#3)))

/-- Each of ADDI, SLTI, SLTIU, XORI, ORI and ANDI has the word its rule gives, writes its function of x[rs1] and the sign-extended immediate to x[rd], advances the pc by 4 and changes nothing else. -/
def Obligations.BaseImmediate : Prop :=
  ImmRule 0b000#3 0b0010011#7 Instr.addi (fun a b => a + b) ∧
  ImmRule 0b010#3 0b0010011#7 Instr.slti (fun a b => if a.toInt < b.toInt then 1#64 else 0#64) ∧
  ImmRule 0b011#3 0b0010011#7 Instr.sltiu (fun a b => if a.toNat < b.toNat then 1#64 else 0#64) ∧
  ImmRule 0b100#3 0b0010011#7 Instr.xori (fun a b => a ^^^ b) ∧
  ImmRule 0b110#3 0b0010011#7 Instr.ori (fun a b => a ||| b) ∧
  ImmRule 0b111#3 0b0010011#7 Instr.andi (fun a b => a &&& b)

/-- Each has the word its rule gives, writes the shifted x[rs1] to x[rd], advances the pc by 4 and changes nothing else; with funct3 001 or 101 any other value of bits 31:26 decodes to no instruction. -/
def Obligations.BaseShiftImmediate : Prop :=
  ShiftRule (by omega) 0b000000#6 0b001#3 0b0010011#7 Instr.slli (fun a n => a <<< n) ∧
  ShiftRule (by omega) 0b000000#6 0b101#3 0b0010011#7 Instr.srli (fun a n => a >>> n) ∧
  ShiftRule (by omega) 0b010000#6 0b101#3 0b0010011#7 Instr.srai (fun a n => a.sshiftRight n) ∧
  OthersIllegal 0b0010011#7 (fun w =>
    (w.extractLsb' 12 3 = 0b001#3 → w.extractLsb' 26 6 = 0b000000#6) ∧
    (w.extractLsb' 12 3 = 0b101#3 → w.extractLsb' 26 6 = 0b000000#6 ∨ w.extractLsb' 26 6 = 0b010000#6))

/-- ADDIW, SLLIW, SRLIW and SRAIW have the words their rules give, write the sign-extended 32-bit result to x[rd], advance the pc by 4 and change nothing else; a shift with any other bits 31:25 and the funct3 codes 010, 011, 100, 110 and 111 decode to no instruction. -/
def Obligations.BaseImmediateWord : Prop :=
  ImmRule 0b000#3 0b0011011#7 Instr.addiw (fun a b => ((a + b).setWidth 32).signExtend 64) ∧
  ShiftRule (by omega) 0b0000000#7 0b001#3 0b0011011#7 Instr.slliw (fun a n => ((a.setWidth 32) <<< n).signExtend 64) ∧
  ShiftRule (by omega) 0b0000000#7 0b101#3 0b0011011#7 Instr.srliw (fun a n => ((a.setWidth 32) >>> n).signExtend 64) ∧
  ShiftRule (by omega) 0b0100000#7 0b101#3 0b0011011#7 Instr.sraiw (fun a n => ((a.setWidth 32).sshiftRight n).signExtend 64) ∧
  OthersIllegal 0b0011011#7 (fun w =>
    w.extractLsb' 12 3 = 0b000#3 ∨ (w.extractLsb' 12 3 = 0b001#3 ∧ w.extractLsb' 25 7 = 0b0000000#7) ∨
    (w.extractLsb' 12 3 = 0b101#3 ∧ (w.extractLsb' 25 7 = 0b0000000#7 ∨ w.extractLsb' 25 7 = 0b0100000#7)))

/-- LUI writes the immediate with 12 zero bits below it, sign-extended, to x[rd]; AUIPC writes that plus the pc; each advances the pc by 4 and changes nothing else. -/
def Obligations.BaseUpperImmediate : Prop :=
  (∀ (rd : BitVec 5) (imm : BitVec 20),
    decode (.w32 (imm ++ rd ++ 0b0110111#7)) = .ok (.lui rd imm) ∧
    decode (.w32 (imm ++ rd ++ 0b0010111#7)) = .ok (.auipc rd imm)) ∧
  ∀ rd imm s,
    WritesX s (exec (.lui rd imm) s) (reg5 rd) ((imm ++ 0#12).signExtend 64) 4 ∧
    WritesX s (exec (.auipc rd imm) s) (reg5 rd) (s.pc + (imm ++ 0#12).signExtend 64) 4

/-- Each load has the word its rule gives; when MemRead at x[rs1] + immI succeeds, x[rd] receives the extended value, the pc advances by 4 and nothing else changes; when MemRead raises, that exception is taken and rd is not written; funct3 111 in LOAD decodes to no instruction. -/
def Obligations.BaseLoads : Prop :=
  LoadRule 0b000#3 1 Instr.lb (fun m => (m.setWidth 8).signExtend 64) ∧
  LoadRule 0b001#3 2 Instr.lh (fun m => (m.setWidth 16).signExtend 64) ∧
  LoadRule 0b010#3 4 Instr.lw (fun m => (m.setWidth 32).signExtend 64) ∧
  LoadRule 0b011#3 8 Instr.ld (fun m => m.setWidth 64) ∧
  LoadRule 0b100#3 1 Instr.lbu (fun m => (m.setWidth 8).setWidth 64) ∧
  LoadRule 0b101#3 2 Instr.lhu (fun m => (m.setWidth 16).setWidth 64) ∧
  LoadRule 0b110#3 4 Instr.lwu (fun m => (m.setWidth 32).setWidth 64) ∧
  OthersIllegal 0b0000011#7 (fun w => w.extractLsb' 12 3 ≠ 0b111#3) ∧
  (∀ s a, memRead s a 1 ≠ .error (.raise .loadAddressMisaligned a)) ∧
  (∀ s a, a.getLsbD 0 = true → memRead s a 2 = .error (.raise .loadAddressMisaligned a)) ∧
  (∀ s a, a.extractLsb' 0 2 ≠ 0#2 → memRead s a 4 = .error (.raise .loadAddressMisaligned a)) ∧
  (∀ s a, a.extractLsb' 0 3 ≠ 0#3 → memRead s a 8 = .error (.raise .loadAddressMisaligned a))

/-- Each store has the word its rule gives; at an aligned backed address x[rs1] + immS it stores the low bytes of x[rs2] and nothing else, no register is written and the pc advances by 4; a misaligned address raises StoreAddressMisaligned, else an unbacked byte raises StoreAccessFault; funct3 100 to 111 in STORE decode to no instruction. -/
def Obligations.BaseStores : Prop :=
  StoreRule 0b000#3 1 Instr.sb ∧
  StoreRule 0b001#3 2 Instr.sh ∧
  StoreRule 0b010#3 4 Instr.sw ∧
  StoreRule 0b011#3 8 Instr.sd ∧
  OthersIllegal 0b0100011#7 (fun w => w.extractLsb' 14 1 = 0b0#1)

/-- JAL writes pc + 4 to x[rd] and jumps to pc + immJ; JALR writes pc + 4 to x[rd] and jumps to the old x[rs1] + immI with bit 0 cleared; nothing else changes; any other funct3 of JALR decodes to no instruction. -/
def Obligations.BaseJumps : Prop :=
  (∀ (rd : BitVec 5) (b20 b11 : BitVec 1) (b19to12 : BitVec 8) (b10to1 : BitVec 10),
    decode (.w32 (b20 ++ b10to1 ++ b11 ++ b19to12 ++ rd ++ 0b1101111#7)) =
      .ok (.jal rd (b20 ++ b19to12 ++ b11 ++ b10to1 ++ 0#1))) ∧
  DecodesI 0b000#3 0b1100111#7 Instr.jalr ∧
  OthersIllegal 0b1100111#7 (fun w => w.extractLsb' 12 3 = 0b000#3) ∧
  (∀ rd offset s,
    WritesXTo s (exec (.jal rd offset) s) (reg5 rd) (s.pc + 4#64) (s.pc + offset.signExtend 64)) ∧
  (∀ rd rs1 imm s, WritesXTo s (exec (.jalr rd rs1 imm) s) (reg5 rd) (s.pc + 4#64)
    ((s.getX (reg5 rs1) + imm.signExtend 64) &&& 0xFFFFFFFFFFFFFFFE#64))

/-- Each branch has the word its rule gives, goes to pc + immB when its condition holds and to pc + 4 when it does not, and changes nothing else; funct3 010 and 011 in BRANCH decode to no instruction. -/
def Obligations.BaseBranches : Prop :=
  BranchRule 0b000#3 Instr.beq (fun a b => a = b) ∧
  BranchRule 0b001#3 Instr.bne (fun a b => a ≠ b) ∧
  BranchRule 0b100#3 Instr.blt (fun a b => a.toInt < b.toInt) ∧
  BranchRule 0b101#3 Instr.bge (fun a b => ¬a.toInt < b.toInt) ∧
  BranchRule 0b110#3 Instr.bltu (fun a b => a.toNat < b.toNat) ∧
  BranchRule 0b111#3 Instr.bgeu (fun a b => ¬a.toNat < b.toNat) ∧
  OthersIllegal 0b1100011#7 (fun w => w.extractLsb' 12 3 ≠ 0b010#3 ∧ w.extractLsb' 12 3 ≠ 0b011#3)

/-- FENCE, whatever its ignored fields hold, advances the pc by 4 and changes nothing else; any other funct3 of its opcode decodes to no instruction. -/
def Obligations.FenceAdvances : Prop :=
  DecodesI 0b000#3 0b0001111#7 Instr.fence ∧
  OthersIllegal 0b0001111#7 (fun w => w.extractLsb' 12 3 = 0b000#3) ∧
  ∀ rd rs1 imm s, OnlyAdvances s (exec (.fence rd rs1 imm) s) 4

/-- The word 0x00000073 raises EnvironmentCall with trap value 0 and the word 0x00100073 raises Breakpoint with the pc as trap value; nothing but the trap record changes; every other SYSTEM word with funct3 000 decodes to no instruction. -/
def Obligations.SystemCalls : Prop :=
  decode (.w32 0x00000073#32) = .ok .ecall ∧ decode (.w32 0x00100073#32) = .ok .ebreak ∧
  OthersIllegal 0b1110011#7 (fun w => w.extractLsb' 12 3 = 0b000#3 → w = 0x00000073#32 ∨ w = 0x00100073#32) ∧
  (∀ s, Traps s (exec .ecall s) .environmentCall 0#64) ∧
  (∀ s, Traps s (exec .ebreak s) .breakpoint s.pc)

/-- Each CSR instruction returns the old SVPSTATE, zero-extended, in x[rd] and writes its new value (none for rs1 = x0 or zimm = 0 in the set and clear forms); a value with an unsupported bit set, or an address other than CSR_SVPSTATE, raises IllegalInstruction with the word and changes nothing; funct3 100 decodes to no instruction. -/
def Obligations.CsrInstructions : Prop :=
  DecodesI 0b001#3 0b1110011#7 Instr.csrrw ∧ DecodesI 0b010#3 0b1110011#7 Instr.csrrs ∧
  DecodesI 0b011#3 0b1110011#7 Instr.csrrc ∧ DecodesI 0b101#3 0b1110011#7 Instr.csrrwi ∧
  DecodesI 0b110#3 0b1110011#7 Instr.csrrsi ∧ DecodesI 0b111#3 0b1110011#7 Instr.csrrci ∧
  OthersIllegal 0b1110011#7 (fun w => w.extractLsb' 12 3 ≠ 0b100#3) ∧
  ∀ rd rs1 csr s,
    let old := s.svpstate.setWidth 64
    let x := s.getX (reg5 rs1)
    let zimm := rs1.setWidth 64
    CsrWriteRule (.csrrw rd rs1 csr) rd csr s x ∧
    CsrWriteRule (.csrrwi rd rs1 csr) rd csr s zimm ∧
    (rs1 ≠ 0#5 → CsrWriteRule (.csrrs rd rs1 csr) rd csr s (old ||| x)) ∧
    (rs1 ≠ 0#5 → CsrWriteRule (.csrrc rd rs1 csr) rd csr s (old &&& ~~~x)) ∧
    (rs1 ≠ 0#5 → CsrWriteRule (.csrrsi rd rs1 csr) rd csr s (old ||| zimm)) ∧
    (rs1 ≠ 0#5 → CsrWriteRule (.csrrci rd rs1 csr) rd csr s (old &&& ~~~zimm)) ∧
    (rs1 = 0#5 → CsrReadRule (.csrrs rd rs1 csr) rd csr s ∧ CsrReadRule (.csrrc rd rs1 csr) rd csr s ∧
      CsrReadRule (.csrrsi rd rs1 csr) rd csr s ∧ CsrReadRule (.csrrci rd rs1 csr) rd csr s)

/-- Without a loop context each of the fifteen register instructions, P48 or P64, any flags and width, widens the low w bits of its sources (zero extension for the ten OP instructions, sign extension for the five OP-32), applies its function and writes the low w bits of rd, the rest of rd unchanged; when bit 0 of the predicate register x9, x10 or x11 does not have the polarity the field names, only the pc changes; the pc advances by 6 or 8. -/
def Obligations.PrefixedRegisterElement : Prop :=
  ElementR48 Instr.p48Add zeroExtended (fun a b => a + b) ∧
  ElementR64 Instr.p64Add zeroExtended (fun a b => a + b) ∧
  ElementR48 Instr.p48Sub zeroExtended (fun a b => a - b) ∧
  ElementR64 Instr.p64Sub zeroExtended (fun a b => a - b) ∧
  ElementR48 Instr.p48Sll zeroExtended (fun a b => a <<< (b.toNat % 64)) ∧
  ElementR64 Instr.p64Sll zeroExtended (fun a b => a <<< (b.toNat % 64)) ∧
  ElementR48 Instr.p48Slt zeroExtended (fun a b => if a.toInt < b.toInt then 1#64 else 0#64) ∧
  ElementR64 Instr.p64Slt zeroExtended (fun a b => if a.toInt < b.toInt then 1#64 else 0#64) ∧
  ElementR48 Instr.p48Sltu zeroExtended (fun a b => if a.toNat < b.toNat then 1#64 else 0#64) ∧
  ElementR64 Instr.p64Sltu zeroExtended (fun a b => if a.toNat < b.toNat then 1#64 else 0#64) ∧
  ElementR48 Instr.p48Xor zeroExtended (fun a b => a ^^^ b) ∧
  ElementR64 Instr.p64Xor zeroExtended (fun a b => a ^^^ b) ∧
  ElementR48 Instr.p48Srl zeroExtended (fun a b => a >>> (b.toNat % 64)) ∧
  ElementR64 Instr.p64Srl zeroExtended (fun a b => a >>> (b.toNat % 64)) ∧
  ElementR48 Instr.p48Sra zeroExtended (fun a b => a.sshiftRight (b.toNat % 64)) ∧
  ElementR64 Instr.p64Sra zeroExtended (fun a b => a.sshiftRight (b.toNat % 64)) ∧
  ElementR48 Instr.p48Or zeroExtended (fun a b => a ||| b) ∧
  ElementR64 Instr.p64Or zeroExtended (fun a b => a ||| b) ∧
  ElementR48 Instr.p48And zeroExtended (fun a b => a &&& b) ∧
  ElementR64 Instr.p64And zeroExtended (fun a b => a &&& b) ∧
  ElementR48 Instr.p48Addw signExtended (fun a b => ((a + b).setWidth 32).signExtend 64) ∧
  ElementR64 Instr.p64Addw signExtended (fun a b => ((a + b).setWidth 32).signExtend 64) ∧
  ElementR48 Instr.p48Subw signExtended (fun a b => ((a - b).setWidth 32).signExtend 64) ∧
  ElementR64 Instr.p64Subw signExtended (fun a b => ((a - b).setWidth 32).signExtend 64) ∧
  ElementR48 Instr.p48Sllw signExtended (fun a b => ((a.setWidth 32) <<< (b.toNat % 32)).signExtend 64) ∧
  ElementR64 Instr.p64Sllw signExtended (fun a b => ((a.setWidth 32) <<< (b.toNat % 32)).signExtend 64) ∧
  ElementR48 Instr.p48Srlw signExtended (fun a b => ((a.setWidth 32) >>> (b.toNat % 32)).signExtend 64) ∧
  ElementR64 Instr.p64Srlw signExtended (fun a b => ((a.setWidth 32) >>> (b.toNat % 32)).signExtend 64) ∧
  ElementR48 Instr.p48Sraw signExtended (fun a b => ((a.setWidth 32).sshiftRight (b.toNat % 32)).signExtend 64) ∧
  ElementR64 Instr.p64Sraw signExtended (fun a b => ((a.setWidth 32).sshiftRight (b.toNat % 32)).signExtend 64)

/-- Without a loop context each of the thirteen immediate instructions, P48 or P64, any flags and width, widens the low w bits of rs1 (zero extension for OP-IMM, sign extension for OP-IMM-32), applies its function with the unmodified immediate and writes the low w bits of rd; if bit 0 of x9 or of x10, where the field selects it, does not have the polarity the field names, only the pc changes. -/
def Obligations.PrefixedImmediateElement : Prop :=
  (∀ imm, ElementI48 (fun o => Instr.p48Addi o imm) zeroExtended (fun a => a + (imm.signExtend 64))) ∧
  (∀ imm, ElementI64 (fun o v => Instr.p64Addi o imm v) zeroExtended (fun a => a + (imm.signExtend 64))) ∧
  (∀ imm, ElementI48 (fun o => Instr.p48Slti o imm) zeroExtended (fun a => if a.toInt < (imm.signExtend 64).toInt then 1#64 else 0#64)) ∧
  (∀ imm, ElementI64 (fun o v => Instr.p64Slti o imm v) zeroExtended (fun a => if a.toInt < (imm.signExtend 64).toInt then 1#64 else 0#64)) ∧
  (∀ imm, ElementI48 (fun o => Instr.p48Sltiu o imm) zeroExtended (fun a => if a.toNat < (imm.signExtend 64).toNat then 1#64 else 0#64)) ∧
  (∀ imm, ElementI64 (fun o v => Instr.p64Sltiu o imm v) zeroExtended (fun a => if a.toNat < (imm.signExtend 64).toNat then 1#64 else 0#64)) ∧
  (∀ imm, ElementI48 (fun o => Instr.p48Xori o imm) zeroExtended (fun a => a ^^^ (imm.signExtend 64))) ∧
  (∀ imm, ElementI64 (fun o v => Instr.p64Xori o imm v) zeroExtended (fun a => a ^^^ (imm.signExtend 64))) ∧
  (∀ imm, ElementI48 (fun o => Instr.p48Ori o imm) zeroExtended (fun a => a ||| (imm.signExtend 64))) ∧
  (∀ imm, ElementI64 (fun o v => Instr.p64Ori o imm v) zeroExtended (fun a => a ||| (imm.signExtend 64))) ∧
  (∀ imm, ElementI48 (fun o => Instr.p48Andi o imm) zeroExtended (fun a => a &&& (imm.signExtend 64))) ∧
  (∀ imm, ElementI64 (fun o v => Instr.p64Andi o imm v) zeroExtended (fun a => a &&& (imm.signExtend 64))) ∧
  (∀ imm, ElementI48 (fun o => Instr.p48Slli o imm) zeroExtended (fun a => a <<< imm.toNat)) ∧
  (∀ imm, ElementI64 (fun o v => Instr.p64Slli o imm v) zeroExtended (fun a => a <<< imm.toNat)) ∧
  (∀ imm, ElementI48 (fun o => Instr.p48Srli o imm) zeroExtended (fun a => a >>> imm.toNat)) ∧
  (∀ imm, ElementI64 (fun o v => Instr.p64Srli o imm v) zeroExtended (fun a => a >>> imm.toNat)) ∧
  (∀ imm, ElementI48 (fun o => Instr.p48Srai o imm) zeroExtended (fun a => a.sshiftRight imm.toNat)) ∧
  (∀ imm, ElementI64 (fun o v => Instr.p64Srai o imm v) zeroExtended (fun a => a.sshiftRight imm.toNat)) ∧
  (∀ imm, ElementI48 (fun o => Instr.p48Addiw o imm) signExtended (fun a => ((a + (imm.signExtend 64)).setWidth 32).signExtend 64)) ∧
  (∀ imm, ElementI64 (fun o v => Instr.p64Addiw o imm v) signExtended (fun a => ((a + (imm.signExtend 64)).setWidth 32).signExtend 64)) ∧
  (∀ imm, ElementI48 (fun o => Instr.p48Slliw o imm) signExtended (fun a => ((a.setWidth 32) <<< imm.toNat).signExtend 64)) ∧
  (∀ imm, ElementI64 (fun o v => Instr.p64Slliw o imm v) signExtended (fun a => ((a.setWidth 32) <<< imm.toNat).signExtend 64)) ∧
  (∀ imm, ElementI48 (fun o => Instr.p48Srliw o imm) signExtended (fun a => ((a.setWidth 32) >>> imm.toNat).signExtend 64)) ∧
  (∀ imm, ElementI64 (fun o v => Instr.p64Srliw o imm v) signExtended (fun a => ((a.setWidth 32) >>> imm.toNat).signExtend 64)) ∧
  (∀ imm, ElementI48 (fun o => Instr.p48Sraiw o imm) signExtended (fun a => ((a.setWidth 32).sshiftRight imm.toNat).signExtend 64)) ∧
  (∀ imm, ElementI64 (fun o v => Instr.p64Sraiw o imm v) signExtended (fun a => ((a.setWidth 32).sshiftRight imm.toNat).signExtend 64))

/-- Without a loop context prefixed LUI writes the low w bits of immU, and prefixed AUIPC those of pc + immU with the pc of the prefixed instruction, to the low w bits of rd; when bit 0 of the predicate register does not have the polarity the field names, only the pc changes. -/
def Obligations.PrefixedUpperElement : Prop :=
  ElementU48 Instr.p48Lui (fun _ imm => (imm ++ 0#12).signExtend 64) ∧
  ElementU64 Instr.p64Lui (fun _ imm => (imm ++ 0#12).signExtend 64) ∧
  ElementU48 Instr.p48Auipc (fun pc imm => pc + (imm ++ 0#12).signExtend 64) ∧
  ElementU64 Instr.p64Auipc (fun pc imm => pc + (imm ++ 0#12).signExtend 64)

/-- Without a loop context each prefixed load, P48 or P64, scalar or vector address, reads mb bytes at x[n1] + immI, extends them as its base load does and writes the low w bits to rd; when MemRead raises, that exception is taken with rd unwritten; if a predicate bit 0 is inactive no access is made and only the pc changes. -/
def Obligations.PrefixedLoadElement : Prop :=
  LoadElements Instr.p48Lb Instr.p64Lb 1 (fun m => (m.setWidth 8).signExtend 64) ∧
  LoadElements Instr.p48Lh Instr.p64Lh 2 (fun m => (m.setWidth 16).signExtend 64) ∧
  LoadElements Instr.p48Lw Instr.p64Lw 4 (fun m => (m.setWidth 32).signExtend 64) ∧
  LoadElements Instr.p48Ld Instr.p64Ld 8 (fun m => m.setWidth 64) ∧
  LoadElements Instr.p48Lbu Instr.p64Lbu 1 (fun m => (m.setWidth 8).setWidth 64) ∧
  LoadElements Instr.p48Lhu Instr.p64Lhu 2 (fun m => (m.setWidth 16).setWidth 64) ∧
  LoadElements Instr.p48Lwu Instr.p64Lwu 4 (fun m => (m.setWidth 32).setWidth 64)

/-- Without a loop context each prefixed store, P48 or P64, stores the low mb bytes of the zero-extended w-bit element at x[n1] + immS, and no other byte; misaligned and unbacked addresses raise; if a predicate bit 0 is inactive no access is made and only the pc changes. -/
def Obligations.PrefixedStoreElement : Prop :=
  StoreElements Instr.p48Sb Instr.p64Sb 1 ∧
  StoreElements Instr.p48Sh Instr.p64Sh 2 ∧
  StoreElements Instr.p48Sw Instr.p64Sw 4 ∧
  StoreElements Instr.p48Sd Instr.p64Sd 8

/-- For every svlen, VLtyp, flags, predicate and width: if the platform has the options its context fields use, VLtyp does not take VL from x0, and every element of rd, rs1 and rs2 lies in the register file, the instruction completes, the pc moves on, the indices it used are zero, VL and MAXVL are what VLtyp gives, no register outside the span of rd and VLdest changes, and nothing else changes. -/
def Obligations.PrefixedRegisterCompletes : Prop :=
  CompletesR Instr.p48Add Instr.p64Add ∧
  CompletesR Instr.p48Sub Instr.p64Sub ∧
  CompletesR Instr.p48Sll Instr.p64Sll ∧
  CompletesR Instr.p48Slt Instr.p64Slt ∧
  CompletesR Instr.p48Sltu Instr.p64Sltu ∧
  CompletesR Instr.p48Xor Instr.p64Xor ∧
  CompletesR Instr.p48Srl Instr.p64Srl ∧
  CompletesR Instr.p48Sra Instr.p64Sra ∧
  CompletesR Instr.p48Or Instr.p64Or ∧
  CompletesR Instr.p48And Instr.p64And ∧
  CompletesR Instr.p48Addw Instr.p64Addw ∧
  CompletesR Instr.p48Subw Instr.p64Subw ∧
  CompletesR Instr.p48Sllw Instr.p64Sllw ∧
  CompletesR Instr.p48Srlw Instr.p64Srlw ∧
  CompletesR Instr.p48Sraw Instr.p64Sraw

/-- For every svlen, VLtyp, flags, predicate or predicate pair, and width: if the platform has the options its context fields use, VLtyp does not take VL from x0, and every element of rd (and of rs1 in the I formats) lies in the register file, the instruction completes, the pc moves on, the indices it used are zero, VL and MAXVL are what VLtyp gives, no register outside the span of rd and VLdest changes, and nothing else changes. -/
def Obligations.PrefixedImmediateCompletes : Prop :=
  CompletesI Instr.p48Addi Instr.p64Addi ∧
  CompletesI Instr.p48Slti Instr.p64Slti ∧
  CompletesI Instr.p48Sltiu Instr.p64Sltiu ∧
  CompletesI Instr.p48Xori Instr.p64Xori ∧
  CompletesI Instr.p48Ori Instr.p64Ori ∧
  CompletesI Instr.p48Andi Instr.p64Andi ∧
  CompletesI Instr.p48Slli Instr.p64Slli ∧
  CompletesI Instr.p48Srli Instr.p64Srli ∧
  CompletesI Instr.p48Srai Instr.p64Srai ∧
  CompletesI Instr.p48Addiw Instr.p64Addiw ∧
  CompletesI Instr.p48Slliw Instr.p64Slliw ∧
  CompletesI Instr.p48Srliw Instr.p64Srliw ∧
  CompletesI Instr.p48Sraiw Instr.p64Sraiw ∧
  CompletesU Instr.p48Lui Instr.p64Lui ∧ CompletesU Instr.p48Auipc Instr.p64Auipc

/-- For the fifteen P64-R instructions with every operand a vector inside the register file, any predicate, options the platform has, a nonzero VLtyp, the loop starting at 0 and the destination registers apart from x0 and the source registers: each sub-vector whose predicate bit (read after VLtyp) is active holds the low w bits of the function of the widened elements of rs1 and rs2, zero-extended for OP and sign-extended for OP-32; each whose bit is not keeps its elements. -/
def Obligations.VectorRegisterElements : Prop :=
  VectorElementsR Instr.p64Add zeroExtended (fun a b => a + b) ∧
  VectorElementsR Instr.p64Sub zeroExtended (fun a b => a - b) ∧
  VectorElementsR Instr.p64Sll zeroExtended (fun a b => a <<< (b.toNat % 64)) ∧
  VectorElementsR Instr.p64Slt zeroExtended (fun a b => if a.toInt < b.toInt then 1#64 else 0#64) ∧
  VectorElementsR Instr.p64Sltu zeroExtended (fun a b => if a.toNat < b.toNat then 1#64 else 0#64) ∧
  VectorElementsR Instr.p64Xor zeroExtended (fun a b => a ^^^ b) ∧
  VectorElementsR Instr.p64Srl zeroExtended (fun a b => a >>> (b.toNat % 64)) ∧
  VectorElementsR Instr.p64Sra zeroExtended (fun a b => a.sshiftRight (b.toNat % 64)) ∧
  VectorElementsR Instr.p64Or zeroExtended (fun a b => a ||| b) ∧
  VectorElementsR Instr.p64And zeroExtended (fun a b => a &&& b) ∧
  VectorElementsR Instr.p64Addw signExtended (fun a b => ((a + b).setWidth 32).signExtend 64) ∧
  VectorElementsR Instr.p64Subw signExtended (fun a b => ((a - b).setWidth 32).signExtend 64) ∧
  VectorElementsR Instr.p64Sllw signExtended (fun a b => ((a.setWidth 32) <<< (b.toNat % 32)).signExtend 64) ∧
  VectorElementsR Instr.p64Srlw signExtended (fun a b => ((a.setWidth 32) >>> (b.toNat % 32)).signExtend 64) ∧
  VectorElementsR Instr.p64Sraw signExtended (fun a b => ((a.setWidth 32).sshiftRight (b.toNat % 32)).signExtend 64)

/-- Started at index 0, the loop executes its element operation at exactly the indices below VLe whose bit of x9, x10 or x11 has the polarity the pred field names (every index without a predicate), in rising order, sub-elements 0 to svl - 1 of each, stopping after the first active index when rd is scalar and at the first element that raises; then the used indices are zeroed. -/
def Obligations.SingleLoopPositions : Prop :=
  ∀ fm pred dv op s, fm.firstSrc s = 0 → fm.firstSub s = 0 →
    runSingle fm pred dv op s =
      match runElements (markedSingle fm op)
          (singlePositions (PredActive s pred) (fm.vle s) fm.svl dv) s with
      | .error e => .error e
      | .ok s' => .ok (fm.markSingle 0 0 s')

/-- Started at index 0 on both sides, the loop executes the sub-vector operation at exactly the pairs of the n-th active source and the n-th active destination below VLe, a source being active by its bit of x9 and a destination by its bit of x10 as the tpred field selects and inverts them (a scalar source stays on its first active position, a scalar destination ends the loop after one pair), stopping at the first element that raises; then the used indices are zeroed. -/
def Obligations.TwinLoopPositions : Prop :=
  ∀ fm tpred sv dv op s, fm.firstSrc s = 0 → fm.firstDest s = 0 → fm.firstSub s = 0 →
    runTwin fm tpred sv dv op s =
      match runElements (markedTwin fm op)
          (twinPairs (SourceActive s tpred) (DestActive s tpred) (fm.vle s) sv dv) s with
      | .error e => .error e
      | .ok s' => .ok (fm.markTwin 0 0 0 s')

/-- When a loop of either kind raises, the state it leaves is one in which the element operation of some position (i, j) below VLe and sub-element below svl raises just that, with srcoffs = i (and destoffs = j in the twin loop) when VLtyp is nonzero and dsvoffs = the sub-element when svlen is nonzero. -/
def Obligations.RaiseKeepsPosition : Prop :=
  (∀ fm pred dv op s s' e, runSingle fm pred dv op s = .error (s', e) →
    ∃ i sub, i < fm.vle s ∧ sub < fm.svl ∧ op i sub s' = .error e ∧
      (fm.ctxVL = true → s'.srcoffs.toNat = i) ∧ (fm.ctxSV = true → s'.dsvoffs.toNat = sub)) ∧
  (∀ fm tpred sv dv op s s' e, runTwin fm tpred sv dv op s = .error (s', e) →
    ∃ i j sub, i < fm.vle s ∧ j < fm.vle s ∧ sub < fm.svl ∧ op i j sub s' = .error e ∧
      (fm.ctxVL = true → s'.srcoffs.toNat = i ∧ s'.destoffs.toNat = j) ∧
      (fm.ctxSV = true → s'.dsvoffs.toNat = sub))

/-- On a platform with svlen and from sub-element 0, each of the thirteen P64-I instructions with rd = x127, 64-bit elements, any nonzero svlen, any scalar and vector flags, no predicate and VLtyp 0, any source register: element 0 is written to x127, element 1 raises IllegalInstruction with the instruction word, dsvoffs is 1, subvl is the svlen field, the pc and every other field of SVPSTATE, its bits 31:28 included, stay, and nothing else changes. -/
def Obligations.RegisterFileEnd : Prop :=
  RaisesPastX127 Instr.p64Addi (fun imm a => a + (imm.signExtend 64)) ∧
  RaisesPastX127 Instr.p64Slti (fun imm a => if a.toInt < (imm.signExtend 64).toInt then 1#64 else 0#64) ∧
  RaisesPastX127 Instr.p64Sltiu (fun imm a => if a.toNat < (imm.signExtend 64).toNat then 1#64 else 0#64) ∧
  RaisesPastX127 Instr.p64Xori (fun imm a => a ^^^ (imm.signExtend 64)) ∧
  RaisesPastX127 Instr.p64Ori (fun imm a => a ||| (imm.signExtend 64)) ∧
  RaisesPastX127 Instr.p64Andi (fun imm a => a &&& (imm.signExtend 64)) ∧
  RaisesPastX127 Instr.p64Slli (fun imm a => a <<< imm.toNat) ∧
  RaisesPastX127 Instr.p64Srli (fun imm a => a >>> imm.toNat) ∧
  RaisesPastX127 Instr.p64Srai (fun imm a => a.sshiftRight imm.toNat) ∧
  RaisesPastX127 Instr.p64Addiw (fun imm a => ((a + (imm.signExtend 64)).setWidth 32).signExtend 64) ∧
  RaisesPastX127 Instr.p64Slliw (fun imm a => ((a.setWidth 32) <<< imm.toNat).signExtend 64) ∧
  RaisesPastX127 Instr.p64Srliw (fun imm a => ((a.setWidth 32) >>> imm.toNat).signExtend 64) ∧
  RaisesPastX127 Instr.p64Sraiw (fun imm a => ((a.setWidth 32).sshiftRight imm.toNat).signExtend 64)

/-- In every element operation, integer or memory, an operand element past x127 gives IllegalInstruction with the instruction word, whatever the memory access would do. -/
def Obligations.ElementRangeComesFirst : Prop :=
  ∀ (fm : Form) (w mb : Nat) (sg : Signedness) (rd rs1 rs2 : Operand) (imm : Word) (mv : Bool)
    (i j sub : Nat) (s : State) (fn2 : Word → Word → Word) (fn1 : Word → Word) (value : Word),
    let bad : Except Stop State := .error (.raise .illegalInstruction fm.word)
    (127 < elemReg xlen rd.reg (flatIndex rd.vec fm.svl i sub) w →
      elementR fm w sg fn2 rd rs1 rs2 i sub s = bad ∧ elementU fm w value rd i sub s = bad) ∧
    (127 < elemReg xlen rs1.reg (flatIndex rs1.vec fm.svl i sub) w →
      elementR fm w sg fn2 rd rs1 rs2 i sub s = bad ∧ elementI fm w sg fn1 rd rs1 i j sub s = bad) ∧
    (127 < elemReg xlen rs2.reg (flatIndex rs2.vec fm.svl i sub) w →
      elementR fm w sg fn2 rd rs1 rs2 i sub s = bad ∧ elementStore fm mb w rs2 rs1 imm mv i j sub s = bad) ∧
    (127 < elemReg xlen rd.reg (flatIndex rd.vec fm.svl j sub) w →
      elementI fm w sg fn1 rd rs1 i j sub s = bad ∧ elementLoad fm mb sg w rd rs1 imm mv i j sub s = bad) ∧
    (rs1.vec = true → 127 < elemReg xlen rs1.reg i 64 → elementLoad fm mb sg w rd rs1 imm mv i j sub s = bad) ∧
    (rs1.vec = true → 127 < elemReg xlen rs1.reg j 64 → elementStore fm mb w rs2 rs1 imm mv i j sub s = bad)

/-- Each of the seven loads, P48 or P64, with any svlen, VLtyp and element width, from index 0 and with every position active: position i, sub-element s reads at x[rs1] + immI + (i*svl + s)*mb for a scalar base (one address, or unit stride, LOAD-MULTI) and at x[rs1 + i] + immI + s*mb for a vector base (gather); when all reads succeed and no base register is loaded into, element i*svl + s of rd is the extended value cut to the element width (0 in x0), the other elements and registers are as VLtyp leaves them, SVPSTATE is as VLtyp and svlen set it, memory is unchanged. -/
def Obligations.VectorLoadElements : Prop :=
  VectorLoads Instr.p48Lb Instr.p64Lb 1 (fun m => (m.setWidth 8).signExtend 64) ∧
  VectorLoads Instr.p48Lh Instr.p64Lh 2 (fun m => (m.setWidth 16).signExtend 64) ∧
  VectorLoads Instr.p48Lw Instr.p64Lw 4 (fun m => (m.setWidth 32).signExtend 64) ∧
  VectorLoads Instr.p48Ld Instr.p64Ld 8 (fun m => m.setWidth 64) ∧
  VectorLoads Instr.p48Lbu Instr.p64Lbu 1 (fun m => (m.setWidth 8).setWidth 64) ∧
  VectorLoads Instr.p48Lhu Instr.p64Lhu 2 (fun m => (m.setWidth 16).setWidth 64) ∧
  VectorLoads Instr.p48Lwu Instr.p64Lwu 4 (fun m => (m.setWidth 32).setWidth 64)

/-- Each of the four stores, P48 or P64, with any svlen, VLtyp and element width, from index 0 and with every position active: position i, sub-element s stores at x[rs1] + immS + (i*svl + s)*mb for a scalar base (one address, or unit stride, STORE-MULTI) and at x[rs1 + i] + immS + s*mb for a vector base (scatter, also of a scalar rs2); when all addresses are aligned, backed and different, the mb bytes there are the low bytes of the zero-extended element of rs2, no other byte changes, exactly those bytes are marked as stored to, no register but VLdest changes, SVPSTATE is as VLtyp and svlen set it. -/
def Obligations.VectorStoreElements : Prop :=
  VectorStores Instr.p48Sb Instr.p64Sb 1 ∧
  VectorStores Instr.p48Sh Instr.p64Sh 2 ∧
  VectorStores Instr.p48Sw Instr.p64Sw 4 ∧
  VectorStores Instr.p48Sd Instr.p64Sd 8

/-- For every VLtyp that an encoding admits: VL from the immediate is min(F + 1, MAXVL), the clamp to MAXVL being the spec's inference in R304 (decision D23), not the source's sentence; VL from a register is min(x[F], MAXVL) on the whole register; the one-off mode sets MAXVL = VL = F + 1; the MVL mode sets MAXVL = F + 1 and truncates VL; x[VLdest] receives the new VL unless VLdest is x0; every other register, the other SVPSTATE fields and everything else stay. -/
def Obligations.VLtypModes : Prop :=
  ∀ (dest f : BitVec 5) (s : State),
    let after := fun (v : VLtyp) (vl maxvl : Nat) =>
      let t := applyVLtyp v s
      t.vl.toNat = vl ∧ t.maxvl.toNat = maxvl ∧
      (∀ n, t.getX n = if n = reg5 dest ∧ dest ≠ 0#5 then BitVec.ofNat 64 vl else s.getX n) ∧
      t.srcoffs = s.srcoffs ∧ t.destoffs = s.destoffs ∧ t.subvl = s.subvl ∧ t.dsvoffs = s.dsvoffs ∧
      t.svpRsvd = s.svpRsvd ∧ t.pc = s.pc ∧ SameRest s t
    (dest ≠ 0#5 ∨ f ≠ 0#5 → after (.vlImm dest f) (min (f.toNat + 1) s.maxvl.toNat) s.maxvl.toNat) ∧
    (f ≠ 0#5 → after (.vlReg dest f) (min (s.getX (reg5 f)).toNat s.maxvl.toNat) s.maxvl.toNat) ∧
    after (.mvlVl dest f) (f.toNat + 1) (f.toNat + 1) ∧
    after (.mvl dest f) (min s.vl.toNat (f.toNat + 1)) (f.toNat + 1)

/-- For every prefixed instruction outside the floating-point classes whose options the platform has and whose VLtyp does not take VL from x0, and every state: if it answers a next state, VL and MAXVL are those that applying its VLtyp gives. -/
def Obligations.VLtypFixesVL : Prop :=
  ∀ i s t, (traitsOf i).loop ≠ .none → (traitsOf i).float = false → Supported s.platform (traitsOf i).svlen (traitsOf i).vltyp →
    exec i s = .next t →
    t.vl = (applyVLtyp (traitsOf i).vltyp s).vl ∧ t.maxvl = (applyVLtyp (traitsOf i).vltyp s).maxvl

/-- For every prefixed instruction and every state with VL at most MAXVL at most 64, a next state has it too. -/
def Obligations.VLBoundKept : Prop :=
  ∀ i s t, (traitsOf i).loop ≠ .none → s.vlBounded = true → exec i s = .next t → t.vlBounded = true

/-- A P64 integer, load or store instruction whose nonzero VLtyp leaves VL = 0, on a platform with the options it uses, completes whatever its operands: x registers, VL and MAXVL are those after VLtyp alone; srcoffs is 0, destoffs is 0 in the twin loop and unchanged in the single one; with a nonzero svlen dsvoffs is 0 and subvl is the svlen field, with svlen 0 both are unchanged; SVPSTATE bits 31:28, memory and everything else are unchanged; the pc advances by 8. -/
def Obligations.VLZeroRunsNothing : Prop :=
  ∀ i s, (traitsOf i).float = false → (traitsOf i).vltyp ≠ .default →
    Supported s.platform (traitsOf i).svlen (traitsOf i).vltyp →
    let s1 := applyVLtyp (traitsOf i).vltyp s
    s1.vl = 0#6 →
    ∃ t, exec i s = .next t ∧ t.pc = s.pc + 8#64 ∧ (∀ n, t.getX n = s1.getX n) ∧ t.vl = 0#6 ∧
      t.maxvl = s1.maxvl ∧ t.srcoffs = 0#6 ∧
      t.destoffs = (if (traitsOf i).loop = .twin then 0#6 else s.destoffs) ∧
      t.dsvoffs = (if (traitsOf i).svlen = .subvl then s.dsvoffs else 0#2) ∧
      t.subvl = (if (traitsOf i).svlen = .subvl then s.subvl else (traitsOf i).svlen.code) ∧
      t.svpRsvd = s.svpRsvd ∧ SameRest s t

/-- For every prefixed instruction with a nonzero svlen on a platform without SVLEN_SUPPORTED, or a nonzero VLtyp on a platform without VLTYP_SUPPORTED, or a VLtyp that names x0 as the source of VL: IllegalInstruction with its word, and nothing changes. -/
def Obligations.UnsupportedOptionsTrap : Prop :=
  ∀ i s, (traitsOf i).loop ≠ .none →
    ((traitsOf i).svlen ≠ .subvl ∧ s.platform.svlenSupported = false) ∨
      ((traitsOf i).vltyp ≠ .default ∧ s.platform.vltypSupported = false) ∨
      (∃ dest, (traitsOf i).vltyp = .vlReg dest 0#5) →
    Traps s (exec i s) .illegalInstruction i.word

/-- For every prefixed instruction that completes from a hart that has not trapped: with a nonzero VLtyp srcoffs is 0, and destoffs too for the twin loop; with a nonzero svlen dsvoffs is 0. -/
def Obligations.IndicesEndAtZero : Prop :=
  ∀ i s t, (traitsOf i).loop ≠ .none → s.trap = none → exec i s = .next t → t.trap = none →
    ((traitsOf i).vltyp ≠ .default → t.srcoffs = 0#6 ∧ ((traitsOf i).loop = .twin → t.destoffs = 0#6)) ∧
    ((traitsOf i).svlen ≠ .subvl → t.dsvoffs = 0#2)

/-- For every instruction but the CSR ones with VLtyp 0 and svlen 0: replacing SVPSTATE before it changes nothing in its result but SVPSTATE itself. -/
def Obligations.ScalarIgnoresSvpstate : Prop :=
  ∀ i s v, (traitsOf i).csr = false → (traitsOf i).vltyp = .default → (traitsOf i).svlen = .subvl →
    exec i (s.withSvpstate v) =
      match exec i s with
      | .next t => .next (t.withSvpstate v)
      | .fault e => .fault e
      | .refused e => .refused e

/-- On a platform with HAS_F = false each of the fourteen prefixed floating-point classes raises IllegalInstruction with its word and changes nothing, whatever its fields; and a 32-bit word with a floating-point opcode, once fetched, does the same in a step. -/
def Obligations.FloatIsIllegalWithoutF : Prop :=
  (∀ (o : IOps 6) (a : BitVec 3) (b : BitVec 12), IllegalWithoutF (.p48LoadFp o a b)) ∧
  (∀ (o : SOps 6) (a : BitVec 3) (b : BitVec 12), IllegalWithoutF (.p48StoreFp o a b)) ∧
  (∀ (o : FROps 6), IllegalWithoutF (.p48OpFp o)) ∧
  (∀ (o : FR4Ops 6), IllegalWithoutF (.p48Madd o)) ∧
  (∀ (o : FR4Ops 6), IllegalWithoutF (.p48Msub o)) ∧
  (∀ (o : FR4Ops 6), IllegalWithoutF (.p48Nmsub o)) ∧
  (∀ (o : FR4Ops 6), IllegalWithoutF (.p48Nmadd o)) ∧
  (∀ (o : IOps 7) (a : BitVec 3) (b : BitVec 12) (v : VLtyp), IllegalWithoutF (.p64LoadFp o a b v)) ∧
  (∀ (o : SOps 7) (a : BitVec 3) (b : BitVec 12) (v : VLtyp), IllegalWithoutF (.p64StoreFp o a b v)) ∧
  (∀ (o : FROps 7) (d : Bool) (v : VLtyp), IllegalWithoutF (.p64OpFp o d v)) ∧
  (∀ (o : FR4Ops 7) (v : VLtyp), IllegalWithoutF (.p64Madd o v)) ∧
  (∀ (o : FR4Ops 7) (v : VLtyp), IllegalWithoutF (.p64Msub o v)) ∧
  (∀ (o : FR4Ops 7) (v : VLtyp), IllegalWithoutF (.p64Nmsub o v)) ∧
  (∀ (o : FR4Ops 7) (v : VLtyp), IllegalWithoutF (.p64Nmadd o v)) ∧
  (∀ s w, s.platform.hasF = false → s.trap = none → s.pc.getLsbD 0 = false → fetch s = .ok (.w32 w) →
    w.extractLsb' 0 7 ∈ [0b0000111#7, 0b0100111#7, 0b1000011#7, 0b1000111#7, 0b1001011#7, 0b1001111#7,
      0b1010011#7] → Traps s (step s) .illegalInstruction (w.setWidth 64))

/-- With HAS_F and no loop context each of the four fused multiply-adds, P48, P64 or unprefixed (a step on its 32-bit word), of a format that fits FLEN writes the low bits of f[rd] with the result of fp_op on its three source elements, ors the flags into fcsr, advances the pc and changes nothing else; an inactive predicate bit 0 leaves all but the pc unchanged; a format wider than FLEN raises IllegalInstruction. The format list, the fcsr layout, that a reserved rm executes, that a wider format traps and the operands of the unprefixed words are the model's (log 11, log 12, log 14, log 24, log 16). -/
def Obligations.FusedMultiplyAddElement : Prop :=
  FusedElements 0b1000011#7 Instr.p48Madd Instr.p64Madd ∧
  FusedElements 0b1000111#7 Instr.p48Msub Instr.p64Msub ∧
  FusedElements 0b1001011#7 Instr.p48Nmsub Instr.p64Nmsub ∧
  FusedElements 0b1001111#7 Instr.p48Nmadd Instr.p64Nmadd

/-- With HAS_F and no loop context every OP-FP instruction, P48, P64 or unprefixed (a step on its 32-bit word), whose formats fit FLEN writes the low bits of its destination, f[rd] or x[rd], with the result of fp_op on its source elements, ors the flags into fcsr, advances the pc and changes nothing else; an inactive predicate bit 0 leaves all but the pc unchanged; a code of the class that is no instruction, and an operand wider than FLEN, raise IllegalInstruction. Which codes are instructions with which operands, the fcsr layout, that a reserved rm executes, that the extension bits of a single-source rs2 are accepted, that a wider format traps and the operands of the unprefixed words are the model's (log 12, log 11, log 14, log 15, log 24, log 16). -/
def Obligations.FloatArithElement : Prop :=
  (∀ o s, o.svlen = .subvl →
    OpFpElement s (exec (.p48OpFp o) s) (PredActive s o.pred 0) (Instr.p48OpFp o).word o.base
      (opFpShape o.fmt o.funct5 o.rm (lo5 o.rs2)) (operand48 o.rd (o.vs1 || o.vs2)).reg
      (operand48 o.rs1 o.vs1).reg (operand48 o.rs2 o.vs2).reg 6) ∧
  (∀ o vd s, o.svlen = .subvl →
    OpFpElement s (exec (.p64OpFp o vd .default) s) (PredActive s o.pred 0)
      (Instr.p64OpFp o vd .default).word o.base (opFpShape o.fmt o.funct5 o.rm (lo5 o.rs2)) o.rd o.rs1 o.rs2 8) ∧
  (∀ s w, Runs32 s w → w.extractLsb' 0 7 = 0b1010011#7 →
    OpFpElement s (step s) true (w.setWidth 64) w
      (opFpShape (w.extractLsb' 25 2) (w.extractLsb' 27 5) (w.extractLsb' 12 3) (w.extractLsb' 20 5))
      (reg5 (w.extractLsb' 7 5)) (reg5 (w.extractLsb' 15 5)) (reg5 (w.extractLsb' 20 5)) 4)

/-- With HAS_F and no loop context a floating-point load, P48, P64 or unprefixed (a step on its 32-bit word), moves mb bytes into the low bits of f[rd], a store moves the low bits of f[rs2] to memory, mb being 2, 4, 8 or 16 by width 001, 010, 011 or 100; the exceptions of MemRead and MemWrite are taken; an access wider than FLEN, any other width, and itype other than 00 in a prefixed form raise IllegalInstruction. That an access of 16 bytes is aligned to 16 and checked as R53 and R54 say, that an access wider than FLEN traps, that no NaN-boxing follows an unprefixed load and that its operands are one scalar element are the model's (log 20, log 24, log 16). -/
def Obligations.FloatLoadStoreElement : Prop :=
  (∀ (width : BitVec 3) (mb : Nat), (width, mb) ∈ [(0b001#3, 2), (0b010#3, 4), (0b011#3, 8), (0b100#3, 16)] →
    (∀ (o : IOps 6) imm s, o.svlen = .subvl → o.ew = .e64 →
      FpLoadElement s (exec (.p48LoadFp o width imm) s) (bothActive s o.tpred) (Instr.p48LoadFp o width imm).word
        (operand48 o.rd o.vd).reg (s.getX (operand48 o.rs1 o.vs1).reg + imm.signExtend 64) mb 6) ∧
    (∀ (o : IOps 7) imm s, o.svlen = .subvl → o.ew = .e64 →
      FpLoadElement s (exec (.p64LoadFp o width imm .default) s) (bothActive s o.tpred)
        (Instr.p64LoadFp o width imm .default).word o.rd (s.getX o.rs1 + imm.signExtend 64) mb 8) ∧
    (∀ (o : SOps 6) imm s, o.svlen = .subvl → o.ew = .e64 →
      FpStoreElement s (exec (.p48StoreFp o width imm) s) (bothActive s o.tpred)
        (Instr.p48StoreFp o width imm).word (operand48 o.rs2 o.vs2).reg
        (s.getX (operand48 o.rs1 o.vs1).reg + imm.signExtend 64) mb 6) ∧
    (∀ (o : SOps 7) imm s, o.svlen = .subvl → o.ew = .e64 →
      FpStoreElement s (exec (.p64StoreFp o width imm .default) s) (bothActive s o.tpred)
        (Instr.p64StoreFp o width imm .default).word o.rs2 (s.getX o.rs1 + imm.signExtend 64) mb 8) ∧
    (∀ s w, Runs32 s w → w.extractLsb' 0 7 = 0b0000111#7 → w.extractLsb' 12 3 = width →
      FpLoadElement s (step s) true (w.setWidth 64) (reg5 (w.extractLsb' 7 5))
        (s.getX (reg5 (w.extractLsb' 15 5)) + (w.extractLsb' 20 12).signExtend 64) mb 4) ∧
    (∀ s w, Runs32 s w → w.extractLsb' 0 7 = 0b0100111#7 → w.extractLsb' 12 3 = width →
      FpStoreElement s (step s) true (w.setWidth 64) (reg5 (w.extractLsb' 20 5))
        (s.getX (reg5 (w.extractLsb' 15 5)) + (w.extractLsb' 25 7 ++ w.extractLsb' 7 5).signExtend 64) mb 4)) ∧
  (∀ (width : BitVec 3), width ∉ [0b001#3, 0b010#3, 0b011#3, 0b100#3] →
    (∀ (o : IOps 6) imm s,
      Traps s (exec (.p48LoadFp o width imm) s) .illegalInstruction (Instr.p48LoadFp o width imm).word) ∧
    (∀ (o : IOps 7) imm v s,
      Traps s (exec (.p64LoadFp o width imm v) s) .illegalInstruction (Instr.p64LoadFp o width imm v).word) ∧
    (∀ (o : SOps 6) imm s,
      Traps s (exec (.p48StoreFp o width imm) s) .illegalInstruction (Instr.p48StoreFp o width imm).word) ∧
    (∀ (o : SOps 7) imm v s,
      Traps s (exec (.p64StoreFp o width imm v) s) .illegalInstruction (Instr.p64StoreFp o width imm v).word) ∧
    (∀ s w, Runs32 s w → w.extractLsb' 0 7 = 0b0000111#7 ∨ w.extractLsb' 0 7 = 0b0100111#7 →
      w.extractLsb' 12 3 = width → Traps s (step s) .illegalInstruction (w.setWidth 64))) ∧
  (∀ (width : BitVec 3),
    (∀ (o : IOps 6) imm s, o.ew ≠ .e64 →
      Traps s (exec (.p48LoadFp o width imm) s) .illegalInstruction (Instr.p48LoadFp o width imm).word) ∧
    (∀ (o : IOps 7) imm v s, o.ew ≠ .e64 →
      Traps s (exec (.p64LoadFp o width imm v) s) .illegalInstruction (Instr.p64LoadFp o width imm v).word) ∧
    (∀ (o : SOps 6) imm s, o.ew ≠ .e64 →
      Traps s (exec (.p48StoreFp o width imm) s) .illegalInstruction (Instr.p48StoreFp o width imm).word) ∧
    (∀ (o : SOps 7) imm v s, o.ew ≠ .e64 →
      Traps s (exec (.p64StoreFp o width imm v) s) .illegalInstruction (Instr.p64StoreFp o width imm v).word))

/-- When the hart has not trapped, the pc is even and the word at the pc decodes to an instruction, a step is exec of that instruction. -/
def Obligations.StepRunsDecoded : Prop :=
  ∀ s w i, s.trap = none → s.pc.getLsbD 0 = false → fetch s = .ok w → decode w = .ok i → step s = exec i s

/-- When the bytes of a well-formed instruction lie at the pc in address order, backed and not stored to, below the top of the address space, the hart has not trapped and the pc is even, a step is exec of that instruction. -/
def Obligations.StepRunsEncoded : Prop :=
  ∀ s i, i.wf = true → s.trap = none → s.pc.getLsbD 0 = false → s.pc.toNat + i.ilen ≤ 2 ^ 64 →
    Placed s s.pc.toNat i.bytes → step s = exec i s

/-- With the first parcel outside MemMap a step raises InstructionAccessFault(pc); with the first k parcels readable, k less than the number of parcels that the first one names (2, 3 or 4), and parcel k outside MemMap, it raises InstructionAccessFault(pc + 2k), that is the second, third or fourth parcel; nothing but the trap record changes. Where parcel k would lie at 2^64 and no fetch has a meaning (R26), the step is refused, which is the model's choice (log 7). -/
def Obligations.FetchFaults : Prop :=
  ∀ s, s.trap = none → s.pc.getLsbD 0 = false →
    ((backed s.platform s.pc.toNat = false ∨ backed s.platform (s.pc.toNat + 1) = false) →
      Traps s (step s) .instructionAccessFault s.pc) ∧
    (∀ lo hi rest k, Placed s s.pc.toNat (lo :: hi :: rest) → rest.length + 2 = 2 * k →
      k < parcelCount (hi ++ lo) →
      (s.pc.toNat + 2 * k < 2 ^ 64 →
        (backed s.platform (s.pc.toNat + 2 * k) = false ∨ backed s.platform (s.pc.toNat + 2 * k + 1) = false) →
        Traps s (step s) .instructionAccessFault (s.pc + BitVec.ofNat 64 (2 * k))) ∧
      (s.pc.toNat + 2 * k = 2 ^ 64 → step s = .refused .fetchWraps))

/-- With a first parcel whose bits 1:0 are not 11, or whose bits 6:0 are 1111111, a step raises IllegalInstruction with that parcel as trap value, whatever follows it in memory; a fetched word that decodes to no instruction makes the step raise IllegalInstruction with the zero-extended word, unless it is an unprefixed floating-point word on a platform with HAS_F; neither changes anything but the trap record. -/
def Obligations.IllegalWords : Prop :=
  (∀ s lo hi, s.trap = none → s.pc.getLsbD 0 = false →
    Placed s s.pc.toNat [lo, hi] → (lo.extractLsb' 0 2 ≠ 0b11#2 ∨ lo.extractLsb' 0 7 = 0b1111111#7) →
    Traps s (step s) .illegalInstruction ((hi ++ lo).setWidth 64)) ∧
  (∀ s w, s.trap = none → s.pc.getLsbD 0 = false → fetch s = .ok w → (∀ i, decode w ≠ .ok i) →
    (s.platform.hasF = false ∨ ∀ v : BitVec 32, w = .w32 v → v.extractLsb' 0 7 ∉ [0b0000111#7, 0b0100111#7,
      0b1000011#7, 0b1000111#7, 0b1001011#7, 0b1001111#7, 0b1010011#7]) → Traps s (step s) .illegalInstruction w.toWord)

/-- Whatever else its state holds, a hart whose trap record is set makes no step. -/
def Obligations.StoppedHart : Prop :=
  ∀ s r, s.trap = some r → step s = .fault .stopped

/-- On every platform, after reset every field of SVPSTATE is 0, the pc is RESET_PC, the trap record is empty and x0 reads 0. -/
def Obligations.ResetState : Prop :=
  ∀ p, (State.resetOn p).pc = p.resetPc ∧ (State.resetOn p).svpstate = 0#32 ∧
    (State.resetOn p).maxvl = 0#6 ∧ (State.resetOn p).vl = 0#6 ∧ (State.resetOn p).srcoffs = 0#6 ∧
    (State.resetOn p).destoffs = 0#6 ∧ (State.resetOn p).subvl = 0b00#2 ∧ (State.resetOn p).dsvoffs = 0#2 ∧
    (State.resetOn p).trap = none ∧ (State.resetOn p).getX 0#7 = 0#64 ∧ (State.resetOn p).platform = p

/-- The state after reset on the sample platform meets the invariant, and so does reset on every platform with an even RESET_PC. -/
def Obligations.ResetWellFormed : Prop :=
  State.reset.wf = true ∧ ∀ p, p.resetPc.getLsbD 0 = false → (State.resetOn p).wf = true

/-- From every well-formed state, a step that answers a next state leaves memory in its canonical form, the stored addresses rising, SVPSTATE bits 31:28 zero, the entry of x0 zero and the pc even; the platform is unchanged. -/
def Obligations.StepKeepsWellFormed : Prop :=
  ∀ s t, s.wf = true → step s = .next t → t.wf = true ∧ t.platform = s.platform

/-- For every instruction of all families with every operand the encoding admits, decode of encode is the instruction. -/
def Obligations.DecodeEncode : Prop :=
  ∀ i, i.wf = true → decode (encode i) = .ok i

/-- For every word of 32, 48 or 64 bits: if it decodes to an instruction, that instruction is well formed and its encoding is that word, so no two words mean the same instruction and the trap value of an illegal instruction is the word fetched. -/
def Obligations.EncodeDecode : Prop :=
  ∀ w i, decode w = .ok i → encode i = w ∧ i.wf = true

/-- A base word and a P48 and a P64 word of each prefixed format (LD, ST, R, I, U, FR, FR4), written out from the encoding tables, decode to the instructions they stand for; and the eight pred codes and the eight tpred codes name the predicates that their tables give. -/
def Obligations.DecodedWords : Prop :=
  decode (.w32 0x00108113#32) = .ok (.addi 2#5 1#5 1#12) ∧
  decode (.w48 0x0080A403001F#48) = .ok (.p48Lw ⟨40#6, 33#6, false, false, .e64, .none, .subvl⟩ 8#12) ∧
  decode (.w48 0xFFE13C22C21F#48) =
    .ok (.p48Sd ⟨2#6, 62#6, false, true, .e64, .notX9Off, .subvl⟩ 0xFF8#12) ∧
  decode (.w48 0x01F10FB2AE9F#48) = .ok (.p48Add ⟨63#6, 2#6, 63#6, true, false, .e8, .x9, .two⟩) ∧
  decode (.w48 0xFFFFF0B6141F#48) = .ok (.p48Lui ⟨33#6, false, .e16, .notX9, .subvl⟩ 0xFFFFF#20) ∧
  decode (.w64 0xE14B00020FB3603F#64) =
    .ok (.p64Add ⟨127#7, 100#7, 64#7, true, true, .e64, .none, .subvl⟩ false (.vlReg 5#5 5#5)) ∧
  decode (.w64 0x880FFFF002124FBF#64) =
    .ok (.p64Addi ⟨100#7, 0#7, true, false, .e8, .x9X10, .four⟩ 0xFFF#12 (.mvl 0#5 7#5)) ∧
  decode (.w48 0xDC0703909D1F#48) = .ok (.p48Addi ⟨7#6, 14#6, false, false, .e32, .offNotX10, .three⟩ 3520#12) ∧
  decode (.w64 0x8FFD19B3633610BF#64) = .ok (.p64Lui ⟨102#7, false, .e16, .none, .two⟩ 105270#20 (.mvl 31#5 30#5)) ∧
  decode (.w64 0x072FB6D306823CBF#64) = .ok (.p64Lb ⟨45#7, 6#7, false, true, .e32, .offX10, .two⟩ 2925#12 (.vlReg 28#5 23#5)) ∧
  decode (.w64 0x40007CD80923383F#64) = .ok (.p64Sb ⟨112#7, 13#7, true, false, .e32, .tbd, .subvl⟩ 2002#12 .default) ∧
  decode (.w48 0x6B66E753A89F#48) = .ok (.p48OpFp ⟨46#6, 45#6, 54#6, true, false, .notX10, .two, 6#3, 1#2, 13#5⟩) ∧
  decode (.w48 0x14C894C1DB9F#48) = .ok (.p48Madd ⟨9#6, 49#6, 44#6, 2#6, true, true, .x10, .four, 1#3, 2#2⟩) ∧
  decode (.w64 0x54C5D5E2CCD2E93F#64) = .ok (.p64OpFp ⟨57#7, 69#7, 62#7, true, true, .notX10, .three, 4#3, 2#2, 26#5⟩ true (.vlReg 19#5 2#5)) ∧
  decode (.w64 0xF176FDA8D0C0E93F#64) = .ok (.p64Madd ⟨65#7, 81#7, 122#7, 127#7, true, false, .notX10, .three, 5#3, 2#2⟩ (.vlImm 5#5 27#5)) ∧
  Pred.ofCode 0b000#3 = .ok .none ∧ Pred.ofCode 0b001#3 = .error .reservedPred ∧
  Pred.ofCode 0b010#3 = .ok .notX9 ∧ Pred.ofCode 0b011#3 = .ok .x9 ∧ Pred.ofCode 0b100#3 = .ok .notX10 ∧
  Pred.ofCode 0b101#3 = .ok .x10 ∧ Pred.ofCode 0b110#3 = .ok .notX11 ∧ Pred.ofCode 0b111#3 = .ok .x11 ∧
  TPred.ofCode 0b000#3 = .none ∧ TPred.ofCode 0b001#3 = .x9Off ∧ TPred.ofCode 0b010#3 = .offX10 ∧
  TPred.ofCode 0b011#3 = .x9X10 ∧ TPred.ofCode 0b100#3 = .tbd ∧ TPred.ofCode 0b101#3 = .notX9Off ∧
  TPred.ofCode 0b110#3 = .offNotX10 ∧ TPred.ofCode 0b111#3 = .notX9NotX10

/-- For every instruction but the stores, a next state has the same memory and the same addresses stored to; for every instruction outside the floating-point classes, a next state has the same f registers and fcsr. -/
def Obligations.ClassFrames : Prop :=
  (∀ i s t, (traitsOf i).stores = false → exec i s = .next t → t.mem = s.mem ∧ t.stored = s.stored) ∧
  (∀ i s t, (traitsOf i).float = false → exec i s = .next t → t.f = s.f ∧ t.fcsr = s.fcsr)

/-- For every instruction and address: if the byte there differs after it, MemMap backs the address and it is among the addresses stored to. -/
def Obligations.StoresStayInMemMap : Prop :=
  ∀ i s t a, exec i s = .next t → Memory.read t.mem a ≠ Memory.read s.mem a →
    backed s.platform a = true ∧ a ∈ t.stored

/-- For every store, prefixed or not, a next state has the x registers of the start, or those after applying its VLtyp, and the same f registers. -/
def Obligations.StoresWriteNoRegister : Prop :=
  ∀ i s t, (traitsOf i).stores = true → exec i s = .next t →
    ((∀ n, t.getX n = s.getX n) ∨ (∀ n, t.getX n = (applyVLtyp (traitsOf i).vltyp s).getX n)) ∧
    t.f = s.f ∧ t.fcsr = s.fcsr
end

