-- ==== Sys2Proof/Laws/State.lean ====
section
/-!
SUPPORT. One lemma per field per update of State, and SVPSTATE field by field, so that no proof unfolds an
update.
-/

namespace Sys2Proof.Machine

@[simp] theorem State.pc_setX (s : State) (n : Reg) (v : Word) : (s.setX n v).pc = s.pc := by
  unfold State.setX; split <;> rfl
@[simp] theorem State.svpstate_setX (s : State) (n : Reg) (v : Word) : (s.setX n v).svpstate = s.svpstate := by
  unfold State.setX; split <;> rfl
@[simp] theorem State.f_setX (s : State) (n : Reg) (v : Word) : (s.setX n v).f = s.f := by
  unfold State.setX; split <;> rfl
@[simp] theorem State.fcsr_setX (s : State) (n : Reg) (v : Word) : (s.setX n v).fcsr = s.fcsr := by
  unfold State.setX; split <;> rfl
@[simp] theorem State.mem_setX (s : State) (n : Reg) (v : Word) : (s.setX n v).mem = s.mem := by
  unfold State.setX; split <;> rfl
@[simp] theorem State.stored_setX (s : State) (n : Reg) (v : Word) : (s.setX n v).stored = s.stored := by
  unfold State.setX; split <;> rfl
@[simp] theorem State.trap_setX (s : State) (n : Reg) (v : Word) : (s.setX n v).trap = s.trap := by
  unfold State.setX; split <;> rfl
@[simp] theorem State.platform_setX (s : State) (n : Reg) (v : Word) : (s.setX n v).platform = s.platform := by
  unfold State.setX; split <;> rfl

@[simp] theorem State.x_setF (s : State) (n : Reg) (v : Quad) : (s.setF n v).x = s.x := rfl
@[simp] theorem State.pc_setF (s : State) (n : Reg) (v : Quad) : (s.setF n v).pc = s.pc := rfl
@[simp] theorem State.svpstate_setF (s : State) (n : Reg) (v : Quad) : (s.setF n v).svpstate = s.svpstate := rfl
@[simp] theorem State.fcsr_setF (s : State) (n : Reg) (v : Quad) : (s.setF n v).fcsr = s.fcsr := rfl
@[simp] theorem State.mem_setF (s : State) (n : Reg) (v : Quad) : (s.setF n v).mem = s.mem := rfl
@[simp] theorem State.stored_setF (s : State) (n : Reg) (v : Quad) : (s.setF n v).stored = s.stored := rfl
@[simp] theorem State.trap_setF (s : State) (n : Reg) (v : Quad) : (s.setF n v).trap = s.trap := rfl
@[simp] theorem State.platform_setF (s : State) (n : Reg) (v : Quad) : (s.setF n v).platform = s.platform := rfl

@[simp] theorem State.x_withSvpstate (s : State) (v : BitVec 32) : (s.withSvpstate v).x = s.x := rfl
@[simp] theorem State.pc_withSvpstate (s : State) (v : BitVec 32) : (s.withSvpstate v).pc = s.pc := rfl
@[simp] theorem State.f_withSvpstate (s : State) (v : BitVec 32) : (s.withSvpstate v).f = s.f := rfl
@[simp] theorem State.fcsr_withSvpstate (s : State) (v : BitVec 32) : (s.withSvpstate v).fcsr = s.fcsr := rfl
@[simp] theorem State.mem_withSvpstate (s : State) (v : BitVec 32) : (s.withSvpstate v).mem = s.mem := rfl
@[simp] theorem State.stored_withSvpstate (s : State) (v : BitVec 32) : (s.withSvpstate v).stored = s.stored := rfl
@[simp] theorem State.trap_withSvpstate (s : State) (v : BitVec 32) : (s.withSvpstate v).trap = s.trap := rfl
@[simp] theorem State.platform_withSvpstate (s : State) (v : BitVec 32) : (s.withSvpstate v).platform = s.platform := rfl

@[simp] theorem State.svpstate_withSvpstate (s : State) (v : BitVec 32) : (s.withSvpstate v).svpstate = v := rfl

@[simp] theorem State.x_setMaxvl (s : State) (v : BitVec 6) : (s.setMaxvl v).x = s.x := rfl
@[simp] theorem State.pc_setMaxvl (s : State) (v : BitVec 6) : (s.setMaxvl v).pc = s.pc := rfl
@[simp] theorem State.f_setMaxvl (s : State) (v : BitVec 6) : (s.setMaxvl v).f = s.f := rfl
@[simp] theorem State.fcsr_setMaxvl (s : State) (v : BitVec 6) : (s.setMaxvl v).fcsr = s.fcsr := rfl
@[simp] theorem State.mem_setMaxvl (s : State) (v : BitVec 6) : (s.setMaxvl v).mem = s.mem := rfl
@[simp] theorem State.stored_setMaxvl (s : State) (v : BitVec 6) : (s.setMaxvl v).stored = s.stored := rfl
@[simp] theorem State.trap_setMaxvl (s : State) (v : BitVec 6) : (s.setMaxvl v).trap = s.trap := rfl
@[simp] theorem State.platform_setMaxvl (s : State) (v : BitVec 6) : (s.setMaxvl v).platform = s.platform := rfl

@[simp] theorem State.x_setVl (s : State) (v : BitVec 6) : (s.setVl v).x = s.x := rfl
@[simp] theorem State.pc_setVl (s : State) (v : BitVec 6) : (s.setVl v).pc = s.pc := rfl
@[simp] theorem State.f_setVl (s : State) (v : BitVec 6) : (s.setVl v).f = s.f := rfl
@[simp] theorem State.fcsr_setVl (s : State) (v : BitVec 6) : (s.setVl v).fcsr = s.fcsr := rfl
@[simp] theorem State.mem_setVl (s : State) (v : BitVec 6) : (s.setVl v).mem = s.mem := rfl
@[simp] theorem State.stored_setVl (s : State) (v : BitVec 6) : (s.setVl v).stored = s.stored := rfl
@[simp] theorem State.trap_setVl (s : State) (v : BitVec 6) : (s.setVl v).trap = s.trap := rfl
@[simp] theorem State.platform_setVl (s : State) (v : BitVec 6) : (s.setVl v).platform = s.platform := rfl

@[simp] theorem State.x_setSrcoffs (s : State) (v : BitVec 6) : (s.setSrcoffs v).x = s.x := rfl
@[simp] theorem State.pc_setSrcoffs (s : State) (v : BitVec 6) : (s.setSrcoffs v).pc = s.pc := rfl
@[simp] theorem State.f_setSrcoffs (s : State) (v : BitVec 6) : (s.setSrcoffs v).f = s.f := rfl
@[simp] theorem State.fcsr_setSrcoffs (s : State) (v : BitVec 6) : (s.setSrcoffs v).fcsr = s.fcsr := rfl
@[simp] theorem State.mem_setSrcoffs (s : State) (v : BitVec 6) : (s.setSrcoffs v).mem = s.mem := rfl
@[simp] theorem State.stored_setSrcoffs (s : State) (v : BitVec 6) : (s.setSrcoffs v).stored = s.stored := rfl
@[simp] theorem State.trap_setSrcoffs (s : State) (v : BitVec 6) : (s.setSrcoffs v).trap = s.trap := rfl
@[simp] theorem State.platform_setSrcoffs (s : State) (v : BitVec 6) : (s.setSrcoffs v).platform = s.platform := rfl

@[simp] theorem State.x_setDestoffs (s : State) (v : BitVec 6) : (s.setDestoffs v).x = s.x := rfl
@[simp] theorem State.pc_setDestoffs (s : State) (v : BitVec 6) : (s.setDestoffs v).pc = s.pc := rfl
@[simp] theorem State.f_setDestoffs (s : State) (v : BitVec 6) : (s.setDestoffs v).f = s.f := rfl
@[simp] theorem State.fcsr_setDestoffs (s : State) (v : BitVec 6) : (s.setDestoffs v).fcsr = s.fcsr := rfl
@[simp] theorem State.mem_setDestoffs (s : State) (v : BitVec 6) : (s.setDestoffs v).mem = s.mem := rfl
@[simp] theorem State.stored_setDestoffs (s : State) (v : BitVec 6) : (s.setDestoffs v).stored = s.stored := rfl
@[simp] theorem State.trap_setDestoffs (s : State) (v : BitVec 6) : (s.setDestoffs v).trap = s.trap := rfl
@[simp] theorem State.platform_setDestoffs (s : State) (v : BitVec 6) : (s.setDestoffs v).platform = s.platform := rfl

@[simp] theorem State.x_setSubvl (s : State) (v : BitVec 2) : (s.setSubvl v).x = s.x := rfl
@[simp] theorem State.pc_setSubvl (s : State) (v : BitVec 2) : (s.setSubvl v).pc = s.pc := rfl
@[simp] theorem State.f_setSubvl (s : State) (v : BitVec 2) : (s.setSubvl v).f = s.f := rfl
@[simp] theorem State.fcsr_setSubvl (s : State) (v : BitVec 2) : (s.setSubvl v).fcsr = s.fcsr := rfl
@[simp] theorem State.mem_setSubvl (s : State) (v : BitVec 2) : (s.setSubvl v).mem = s.mem := rfl
@[simp] theorem State.stored_setSubvl (s : State) (v : BitVec 2) : (s.setSubvl v).stored = s.stored := rfl
@[simp] theorem State.trap_setSubvl (s : State) (v : BitVec 2) : (s.setSubvl v).trap = s.trap := rfl
@[simp] theorem State.platform_setSubvl (s : State) (v : BitVec 2) : (s.setSubvl v).platform = s.platform := rfl

@[simp] theorem State.x_setDsvoffs (s : State) (v : BitVec 2) : (s.setDsvoffs v).x = s.x := rfl
@[simp] theorem State.pc_setDsvoffs (s : State) (v : BitVec 2) : (s.setDsvoffs v).pc = s.pc := rfl
@[simp] theorem State.f_setDsvoffs (s : State) (v : BitVec 2) : (s.setDsvoffs v).f = s.f := rfl
@[simp] theorem State.fcsr_setDsvoffs (s : State) (v : BitVec 2) : (s.setDsvoffs v).fcsr = s.fcsr := rfl
@[simp] theorem State.mem_setDsvoffs (s : State) (v : BitVec 2) : (s.setDsvoffs v).mem = s.mem := rfl
@[simp] theorem State.stored_setDsvoffs (s : State) (v : BitVec 2) : (s.setDsvoffs v).stored = s.stored := rfl
@[simp] theorem State.trap_setDsvoffs (s : State) (v : BitVec 2) : (s.setDsvoffs v).trap = s.trap := rfl
@[simp] theorem State.platform_setDsvoffs (s : State) (v : BitVec 2) : (s.setDsvoffs v).platform = s.platform := rfl

@[simp] theorem State.x_advance (s : State) (n : Nat) : (s.advance n).x = s.x := rfl
@[simp] theorem State.svpstate_advance (s : State) (n : Nat) : (s.advance n).svpstate = s.svpstate := rfl
@[simp] theorem State.f_advance (s : State) (n : Nat) : (s.advance n).f = s.f := rfl
@[simp] theorem State.fcsr_advance (s : State) (n : Nat) : (s.advance n).fcsr = s.fcsr := rfl
@[simp] theorem State.mem_advance (s : State) (n : Nat) : (s.advance n).mem = s.mem := rfl
@[simp] theorem State.stored_advance (s : State) (n : Nat) : (s.advance n).stored = s.stored := rfl
@[simp] theorem State.trap_advance (s : State) (n : Nat) : (s.advance n).trap = s.trap := rfl
@[simp] theorem State.platform_advance (s : State) (n : Nat) : (s.advance n).platform = s.platform := rfl

@[simp] theorem State.pc_advance (s : State) (n : Nat) : (s.advance n).pc = s.pc + BitVec.ofNat 64 n := rfl

@[simp] theorem State.x_jump (s : State) (t : Word) : (s.jump t).x = s.x := rfl
@[simp] theorem State.svpstate_jump (s : State) (t : Word) : (s.jump t).svpstate = s.svpstate := rfl
@[simp] theorem State.f_jump (s : State) (t : Word) : (s.jump t).f = s.f := rfl
@[simp] theorem State.fcsr_jump (s : State) (t : Word) : (s.jump t).fcsr = s.fcsr := rfl
@[simp] theorem State.mem_jump (s : State) (t : Word) : (s.jump t).mem = s.mem := rfl
@[simp] theorem State.stored_jump (s : State) (t : Word) : (s.jump t).stored = s.stored := rfl
@[simp] theorem State.trap_jump (s : State) (t : Word) : (s.jump t).trap = s.trap := rfl
@[simp] theorem State.platform_jump (s : State) (t : Word) : (s.jump t).platform = s.platform := rfl

@[simp] theorem State.pc_jump (s : State) (t : Word) : (s.jump t).pc = t := rfl

@[simp] theorem State.x_takeTrap (s : State) (c : Cause) (t : Word) : (s.takeTrap c t).x = s.x := rfl
@[simp] theorem State.pc_takeTrap (s : State) (c : Cause) (t : Word) : (s.takeTrap c t).pc = s.pc := rfl
@[simp] theorem State.svpstate_takeTrap (s : State) (c : Cause) (t : Word) : (s.takeTrap c t).svpstate = s.svpstate := rfl
@[simp] theorem State.f_takeTrap (s : State) (c : Cause) (t : Word) : (s.takeTrap c t).f = s.f := rfl
@[simp] theorem State.fcsr_takeTrap (s : State) (c : Cause) (t : Word) : (s.takeTrap c t).fcsr = s.fcsr := rfl
@[simp] theorem State.mem_takeTrap (s : State) (c : Cause) (t : Word) : (s.takeTrap c t).mem = s.mem := rfl
@[simp] theorem State.stored_takeTrap (s : State) (c : Cause) (t : Word) : (s.takeTrap c t).stored = s.stored := rfl
@[simp] theorem State.platform_takeTrap (s : State) (c : Cause) (t : Word) : (s.takeTrap c t).platform = s.platform := rfl

@[simp] theorem State.trap_takeTrap (s : State) (c : Cause) (t : Word) : (s.takeTrap c t).trap = some ⟨c, t⟩ := rfl

@[simp] theorem State.x_store (s : State) (a : Word) (n : Nat) (v : Quad) : (s.store a n v).x = s.x := rfl
@[simp] theorem State.pc_store (s : State) (a : Word) (n : Nat) (v : Quad) : (s.store a n v).pc = s.pc := rfl
@[simp] theorem State.svpstate_store (s : State) (a : Word) (n : Nat) (v : Quad) : (s.store a n v).svpstate = s.svpstate := rfl
@[simp] theorem State.f_store (s : State) (a : Word) (n : Nat) (v : Quad) : (s.store a n v).f = s.f := rfl
@[simp] theorem State.fcsr_store (s : State) (a : Word) (n : Nat) (v : Quad) : (s.store a n v).fcsr = s.fcsr := rfl
@[simp] theorem State.trap_store (s : State) (a : Word) (n : Nat) (v : Quad) : (s.store a n v).trap = s.trap := rfl
@[simp] theorem State.platform_store (s : State) (a : Word) (n : Nat) (v : Quad) : (s.store a n v).platform = s.platform := rfl

@[simp] theorem State.mem_store (s : State) (a : Word) (n : Nat) (v : Quad) :
    (s.store a n v).mem = writeLE s.mem a.toNat n v := rfl
@[simp] theorem State.stored_store (s : State) (a : Word) (n : Nat) (v : Quad) :
    (s.store a n v).stored = markStored s.stored a.toNat n := rfl

@[simp] theorem State.x_accrue (s : State) (b : BitVec 5) : (s.accrue b).x = s.x := rfl
@[simp] theorem State.pc_accrue (s : State) (b : BitVec 5) : (s.accrue b).pc = s.pc := rfl
@[simp] theorem State.svpstate_accrue (s : State) (b : BitVec 5) : (s.accrue b).svpstate = s.svpstate := rfl
@[simp] theorem State.f_accrue (s : State) (b : BitVec 5) : (s.accrue b).f = s.f := rfl
@[simp] theorem State.mem_accrue (s : State) (b : BitVec 5) : (s.accrue b).mem = s.mem := rfl
@[simp] theorem State.stored_accrue (s : State) (b : BitVec 5) : (s.accrue b).stored = s.stored := rfl
@[simp] theorem State.trap_accrue (s : State) (b : BitVec 5) : (s.accrue b).trap = s.trap := rfl
@[simp] theorem State.platform_accrue (s : State) (b : BitVec 5) : (s.accrue b).platform = s.platform := rfl

/-! ### Register reads after an update that writes no register -/

@[simp] theorem State.getX_withSvpstate (s : State) (v : BitVec 32) (r : Reg) : (s.withSvpstate v).getX r = s.getX r := rfl
@[simp] theorem State.getX_setMaxvl (s : State) (v : BitVec 6) (r : Reg) : (s.setMaxvl v).getX r = s.getX r := rfl
@[simp] theorem State.getX_setVl (s : State) (v : BitVec 6) (r : Reg) : (s.setVl v).getX r = s.getX r := rfl
@[simp] theorem State.getX_setSrcoffs (s : State) (v : BitVec 6) (r : Reg) : (s.setSrcoffs v).getX r = s.getX r := rfl
@[simp] theorem State.getX_setDestoffs (s : State) (v : BitVec 6) (r : Reg) : (s.setDestoffs v).getX r = s.getX r := rfl
@[simp] theorem State.getX_setSubvl (s : State) (v : BitVec 2) (r : Reg) : (s.setSubvl v).getX r = s.getX r := rfl
@[simp] theorem State.getX_setDsvoffs (s : State) (v : BitVec 2) (r : Reg) : (s.setDsvoffs v).getX r = s.getX r := rfl
@[simp] theorem State.getX_advance (s : State) (n : Nat) (r : Reg) : (s.advance n).getX r = s.getX r := rfl
@[simp] theorem State.getX_jump (s : State) (t : Word) (r : Reg) : (s.jump t).getX r = s.getX r := rfl
@[simp] theorem State.getX_takeTrap (s : State) (c : Cause) (t : Word) (r : Reg) : (s.takeTrap c t).getX r = s.getX r := rfl
@[simp] theorem State.getX_store (s : State) (a : Word) (k : Nat) (v : Quad) (r : Reg) : (s.store a k v).getX r = s.getX r := rfl
@[simp] theorem State.getX_accrue (s : State) (b : BitVec 5) (r : Reg) : (s.accrue b).getX r = s.getX r := rfl
@[simp] theorem State.getX_setF (s : State) (m : Reg) (v : Quad) (r : Reg) : (s.setF m v).getX r = s.getX r := rfl

@[simp] theorem State.getF_withSvpstate (s : State) (v : BitVec 32) (r : Reg) : (s.withSvpstate v).getF r = s.getF r := rfl
@[simp] theorem State.getF_setMaxvl (s : State) (v : BitVec 6) (r : Reg) : (s.setMaxvl v).getF r = s.getF r := rfl
@[simp] theorem State.getF_setVl (s : State) (v : BitVec 6) (r : Reg) : (s.setVl v).getF r = s.getF r := rfl
@[simp] theorem State.getF_setSrcoffs (s : State) (v : BitVec 6) (r : Reg) : (s.setSrcoffs v).getF r = s.getF r := rfl
@[simp] theorem State.getF_setDestoffs (s : State) (v : BitVec 6) (r : Reg) : (s.setDestoffs v).getF r = s.getF r := rfl
@[simp] theorem State.getF_setSubvl (s : State) (v : BitVec 2) (r : Reg) : (s.setSubvl v).getF r = s.getF r := rfl
@[simp] theorem State.getF_setDsvoffs (s : State) (v : BitVec 2) (r : Reg) : (s.setDsvoffs v).getF r = s.getF r := rfl
@[simp] theorem State.getF_advance (s : State) (n : Nat) (r : Reg) : (s.advance n).getF r = s.getF r := rfl
@[simp] theorem State.getF_jump (s : State) (t : Word) (r : Reg) : (s.jump t).getF r = s.getF r := rfl
@[simp] theorem State.getF_takeTrap (s : State) (c : Cause) (t : Word) (r : Reg) : (s.takeTrap c t).getF r = s.getF r := rfl
@[simp] theorem State.getF_store (s : State) (a : Word) (k : Nat) (v : Quad) (r : Reg) : (s.store a k v).getF r = s.getF r := rfl
@[simp] theorem State.getF_accrue (s : State) (b : BitVec 5) (r : Reg) : (s.accrue b).getF r = s.getF r := rfl
@[simp] theorem State.getF_setX (s : State) (n : Reg) (v : Word) (r : Reg) : (s.setX n v).getF r = s.getF r := by
  simp [State.getF]

end Sys2Proof.Machine
end

