-- ==== Sys2Proof/Laws/Bits.lean ====
section
/-!
SUPPORT. `putBits`, and with it each field of SVPSTATE after each of its writes (R30).
-/

namespace Sys2Proof.Machine

/-- What `putBits` can do: each bit of the field comes from `v`, every other bit stays. -/
theorem getLsbD_putBits {n w : Nat} (old : BitVec n) (lo : Nat) (v : BitVec w) (i : Nat) :
    (putBits old lo v).getLsbD i =
      if i < n ∧ lo ≤ i ∧ i < lo + w then v.getLsbD (i - lo) else old.getLsbD i := by
  unfold putBits
  simp only [BitVec.getLsbD_or, BitVec.getLsbD_and, BitVec.getLsbD_not, BitVec.getLsbD_shiftLeft,
    BitVec.getLsbD_setWidth, BitVec.getLsbD_allOnes]
  by_cases hn : i < n
  · by_cases hlo : i < lo
    · have : ¬lo ≤ i := by omega
      simp [hn, hlo, this]
    · have h2 : i - lo < n := by omega
      by_cases hw : i < lo + w
      · have h3 : i - lo < w := by omega
        have h4 : lo ≤ i := by omega
        simp [hn, hlo, h2, hw, h3, h4]
      · have h3 : ¬i - lo < w := by omega
        have h5 : v.getLsbD (i - lo) = false := BitVec.getLsbD_of_ge v _ (by omega)
        simp [hn, hlo, h2, hw, h3, h5]
  · have h5 : old.getLsbD i = false := BitVec.getLsbD_of_ge old _ (by omega)
    simp [hn, h5]

/-- The field reads back what was put there. -/
theorem extract_putBits_same {n w : Nat} (old : BitVec n) (lo : Nat) (v : BitVec w) (h : lo + w ≤ n) :
    (putBits old lo v).extractLsb' lo w = v := by
  apply BitVec.eq_of_getLsbD_eq
  intro i hi
  rw [BitVec.getLsbD_extractLsb', getLsbD_putBits]
  have h1 : lo + i < n ∧ lo ≤ lo + i ∧ lo + i < lo + w := by omega
  simp [hi, h1]

/-- A disjoint field is unchanged. -/
theorem extract_putBits_disjoint {n w : Nat} (old : BitVec n) (lo : Nat) (v : BitVec w) (lo' w' : Nat)
    (h : lo' + w' ≤ lo ∨ lo + w ≤ lo') :
    (putBits old lo v).extractLsb' lo' w' = old.extractLsb' lo' w' := by
  apply BitVec.eq_of_getLsbD_eq
  intro i hi
  rw [BitVec.getLsbD_extractLsb', getLsbD_putBits, BitVec.getLsbD_extractLsb']
  have h1 : ¬(lo' + i < n ∧ lo ≤ lo' + i ∧ lo' + i < lo + w) := by omega
  simp [h1]

/-- A field as wide as the whole replaces it. -/
@[simp] theorem putBits_full {n : Nat} (old v : BitVec n) : putBits old 0 v = v := by
  apply BitVec.eq_of_getLsbD_eq
  intro i hi
  rw [getLsbD_putBits]
  simp [hi]

@[simp] theorem State.maxvl_setMaxvl (s : State) (v : BitVec 6) : (s.setMaxvl v).maxvl = v :=
  extract_putBits_same _ 0 v (by omega)
@[simp] theorem State.maxvl_setVl (s : State) (v : BitVec 6) : (s.setVl v).maxvl = s.maxvl :=
  extract_putBits_disjoint _ 6 v 0 6 (by omega)
@[simp] theorem State.maxvl_setSrcoffs (s : State) (v : BitVec 6) : (s.setSrcoffs v).maxvl = s.maxvl :=
  extract_putBits_disjoint _ 12 v 0 6 (by omega)
@[simp] theorem State.maxvl_setDestoffs (s : State) (v : BitVec 6) : (s.setDestoffs v).maxvl = s.maxvl :=
  extract_putBits_disjoint _ 18 v 0 6 (by omega)
@[simp] theorem State.maxvl_setSubvl (s : State) (v : BitVec 2) : (s.setSubvl v).maxvl = s.maxvl :=
  extract_putBits_disjoint _ 24 v 0 6 (by omega)
@[simp] theorem State.maxvl_setDsvoffs (s : State) (v : BitVec 2) : (s.setDsvoffs v).maxvl = s.maxvl :=
  extract_putBits_disjoint _ 26 v 0 6 (by omega)

@[simp] theorem State.vl_setMaxvl (s : State) (v : BitVec 6) : (s.setMaxvl v).vl = s.vl :=
  extract_putBits_disjoint _ 0 v 6 6 (by omega)
@[simp] theorem State.vl_setVl (s : State) (v : BitVec 6) : (s.setVl v).vl = v :=
  extract_putBits_same _ 6 v (by omega)
@[simp] theorem State.vl_setSrcoffs (s : State) (v : BitVec 6) : (s.setSrcoffs v).vl = s.vl :=
  extract_putBits_disjoint _ 12 v 6 6 (by omega)
@[simp] theorem State.vl_setDestoffs (s : State) (v : BitVec 6) : (s.setDestoffs v).vl = s.vl :=
  extract_putBits_disjoint _ 18 v 6 6 (by omega)
@[simp] theorem State.vl_setSubvl (s : State) (v : BitVec 2) : (s.setSubvl v).vl = s.vl :=
  extract_putBits_disjoint _ 24 v 6 6 (by omega)
@[simp] theorem State.vl_setDsvoffs (s : State) (v : BitVec 2) : (s.setDsvoffs v).vl = s.vl :=
  extract_putBits_disjoint _ 26 v 6 6 (by omega)

@[simp] theorem State.srcoffs_setMaxvl (s : State) (v : BitVec 6) : (s.setMaxvl v).srcoffs = s.srcoffs :=
  extract_putBits_disjoint _ 0 v 12 6 (by omega)
@[simp] theorem State.srcoffs_setVl (s : State) (v : BitVec 6) : (s.setVl v).srcoffs = s.srcoffs :=
  extract_putBits_disjoint _ 6 v 12 6 (by omega)
@[simp] theorem State.srcoffs_setSrcoffs (s : State) (v : BitVec 6) : (s.setSrcoffs v).srcoffs = v :=
  extract_putBits_same _ 12 v (by omega)
@[simp] theorem State.srcoffs_setDestoffs (s : State) (v : BitVec 6) : (s.setDestoffs v).srcoffs = s.srcoffs :=
  extract_putBits_disjoint _ 18 v 12 6 (by omega)
@[simp] theorem State.srcoffs_setSubvl (s : State) (v : BitVec 2) : (s.setSubvl v).srcoffs = s.srcoffs :=
  extract_putBits_disjoint _ 24 v 12 6 (by omega)
@[simp] theorem State.srcoffs_setDsvoffs (s : State) (v : BitVec 2) : (s.setDsvoffs v).srcoffs = s.srcoffs :=
  extract_putBits_disjoint _ 26 v 12 6 (by omega)

@[simp] theorem State.destoffs_setMaxvl (s : State) (v : BitVec 6) : (s.setMaxvl v).destoffs = s.destoffs :=
  extract_putBits_disjoint _ 0 v 18 6 (by omega)
@[simp] theorem State.destoffs_setVl (s : State) (v : BitVec 6) : (s.setVl v).destoffs = s.destoffs :=
  extract_putBits_disjoint _ 6 v 18 6 (by omega)
@[simp] theorem State.destoffs_setSrcoffs (s : State) (v : BitVec 6) : (s.setSrcoffs v).destoffs = s.destoffs :=
  extract_putBits_disjoint _ 12 v 18 6 (by omega)
@[simp] theorem State.destoffs_setDestoffs (s : State) (v : BitVec 6) : (s.setDestoffs v).destoffs = v :=
  extract_putBits_same _ 18 v (by omega)
@[simp] theorem State.destoffs_setSubvl (s : State) (v : BitVec 2) : (s.setSubvl v).destoffs = s.destoffs :=
  extract_putBits_disjoint _ 24 v 18 6 (by omega)
@[simp] theorem State.destoffs_setDsvoffs (s : State) (v : BitVec 2) : (s.setDsvoffs v).destoffs = s.destoffs :=
  extract_putBits_disjoint _ 26 v 18 6 (by omega)

@[simp] theorem State.subvl_setMaxvl (s : State) (v : BitVec 6) : (s.setMaxvl v).subvl = s.subvl :=
  extract_putBits_disjoint _ 0 v 24 2 (by omega)
@[simp] theorem State.subvl_setVl (s : State) (v : BitVec 6) : (s.setVl v).subvl = s.subvl :=
  extract_putBits_disjoint _ 6 v 24 2 (by omega)
@[simp] theorem State.subvl_setSrcoffs (s : State) (v : BitVec 6) : (s.setSrcoffs v).subvl = s.subvl :=
  extract_putBits_disjoint _ 12 v 24 2 (by omega)
@[simp] theorem State.subvl_setDestoffs (s : State) (v : BitVec 6) : (s.setDestoffs v).subvl = s.subvl :=
  extract_putBits_disjoint _ 18 v 24 2 (by omega)
@[simp] theorem State.subvl_setSubvl (s : State) (v : BitVec 2) : (s.setSubvl v).subvl = v :=
  extract_putBits_same _ 24 v (by omega)
@[simp] theorem State.subvl_setDsvoffs (s : State) (v : BitVec 2) : (s.setDsvoffs v).subvl = s.subvl :=
  extract_putBits_disjoint _ 26 v 24 2 (by omega)

@[simp] theorem State.dsvoffs_setMaxvl (s : State) (v : BitVec 6) : (s.setMaxvl v).dsvoffs = s.dsvoffs :=
  extract_putBits_disjoint _ 0 v 26 2 (by omega)
@[simp] theorem State.dsvoffs_setVl (s : State) (v : BitVec 6) : (s.setVl v).dsvoffs = s.dsvoffs :=
  extract_putBits_disjoint _ 6 v 26 2 (by omega)
@[simp] theorem State.dsvoffs_setSrcoffs (s : State) (v : BitVec 6) : (s.setSrcoffs v).dsvoffs = s.dsvoffs :=
  extract_putBits_disjoint _ 12 v 26 2 (by omega)
@[simp] theorem State.dsvoffs_setDestoffs (s : State) (v : BitVec 6) : (s.setDestoffs v).dsvoffs = s.dsvoffs :=
  extract_putBits_disjoint _ 18 v 26 2 (by omega)
@[simp] theorem State.dsvoffs_setSubvl (s : State) (v : BitVec 2) : (s.setSubvl v).dsvoffs = s.dsvoffs :=
  extract_putBits_disjoint _ 24 v 26 2 (by omega)
@[simp] theorem State.dsvoffs_setDsvoffs (s : State) (v : BitVec 2) : (s.setDsvoffs v).dsvoffs = v :=
  extract_putBits_same _ 26 v (by omega)

@[simp] theorem State.svpRsvd_setMaxvl (s : State) (v : BitVec 6) : (s.setMaxvl v).svpRsvd = s.svpRsvd :=
  extract_putBits_disjoint _ 0 v 28 4 (by omega)
@[simp] theorem State.svpRsvd_setVl (s : State) (v : BitVec 6) : (s.setVl v).svpRsvd = s.svpRsvd :=
  extract_putBits_disjoint _ 6 v 28 4 (by omega)
@[simp] theorem State.svpRsvd_setSrcoffs (s : State) (v : BitVec 6) : (s.setSrcoffs v).svpRsvd = s.svpRsvd :=
  extract_putBits_disjoint _ 12 v 28 4 (by omega)
@[simp] theorem State.svpRsvd_setDestoffs (s : State) (v : BitVec 6) : (s.setDestoffs v).svpRsvd = s.svpRsvd :=
  extract_putBits_disjoint _ 18 v 28 4 (by omega)
@[simp] theorem State.svpRsvd_setSubvl (s : State) (v : BitVec 2) : (s.setSubvl v).svpRsvd = s.svpRsvd :=
  extract_putBits_disjoint _ 24 v 28 4 (by omega)
@[simp] theorem State.svpRsvd_setDsvoffs (s : State) (v : BitVec 2) : (s.setDsvoffs v).svpRsvd = s.svpRsvd :=
  extract_putBits_disjoint _ 26 v 28 4 (by omega)

@[simp] theorem State.maxvl_setX (s : State) (n : Reg) (v : Word) : (s.setX n v).maxvl = s.maxvl := by simp [State.maxvl]
@[simp] theorem State.maxvl_setF (s : State) (n : Reg) (v : Quad) : (s.setF n v).maxvl = s.maxvl := by simp [State.maxvl]
@[simp] theorem State.maxvl_advance (s : State) (n : Nat) : (s.advance n).maxvl = s.maxvl := by simp [State.maxvl]
@[simp] theorem State.maxvl_jump (s : State) (t : Word) : (s.jump t).maxvl = s.maxvl := by simp [State.maxvl]
@[simp] theorem State.maxvl_takeTrap (s : State) (c : Cause) (t : Word) : (s.takeTrap c t).maxvl = s.maxvl := by simp [State.maxvl]
@[simp] theorem State.maxvl_store (s : State) (a : Word) (n : Nat) (v : Quad) : (s.store a n v).maxvl = s.maxvl := by simp [State.maxvl]
@[simp] theorem State.maxvl_accrue (s : State) (b : BitVec 5) : (s.accrue b).maxvl = s.maxvl := by simp [State.maxvl]

@[simp] theorem State.vl_setX (s : State) (n : Reg) (v : Word) : (s.setX n v).vl = s.vl := by simp [State.vl]
@[simp] theorem State.vl_setF (s : State) (n : Reg) (v : Quad) : (s.setF n v).vl = s.vl := by simp [State.vl]
@[simp] theorem State.vl_advance (s : State) (n : Nat) : (s.advance n).vl = s.vl := by simp [State.vl]
@[simp] theorem State.vl_jump (s : State) (t : Word) : (s.jump t).vl = s.vl := by simp [State.vl]
@[simp] theorem State.vl_takeTrap (s : State) (c : Cause) (t : Word) : (s.takeTrap c t).vl = s.vl := by simp [State.vl]
@[simp] theorem State.vl_store (s : State) (a : Word) (n : Nat) (v : Quad) : (s.store a n v).vl = s.vl := by simp [State.vl]
@[simp] theorem State.vl_accrue (s : State) (b : BitVec 5) : (s.accrue b).vl = s.vl := by simp [State.vl]

@[simp] theorem State.srcoffs_setX (s : State) (n : Reg) (v : Word) : (s.setX n v).srcoffs = s.srcoffs := by simp [State.srcoffs]
@[simp] theorem State.srcoffs_setF (s : State) (n : Reg) (v : Quad) : (s.setF n v).srcoffs = s.srcoffs := by simp [State.srcoffs]
@[simp] theorem State.srcoffs_advance (s : State) (n : Nat) : (s.advance n).srcoffs = s.srcoffs := by simp [State.srcoffs]
@[simp] theorem State.srcoffs_jump (s : State) (t : Word) : (s.jump t).srcoffs = s.srcoffs := by simp [State.srcoffs]
@[simp] theorem State.srcoffs_takeTrap (s : State) (c : Cause) (t : Word) : (s.takeTrap c t).srcoffs = s.srcoffs := by simp [State.srcoffs]
@[simp] theorem State.srcoffs_store (s : State) (a : Word) (n : Nat) (v : Quad) : (s.store a n v).srcoffs = s.srcoffs := by simp [State.srcoffs]
@[simp] theorem State.srcoffs_accrue (s : State) (b : BitVec 5) : (s.accrue b).srcoffs = s.srcoffs := by simp [State.srcoffs]

@[simp] theorem State.destoffs_setX (s : State) (n : Reg) (v : Word) : (s.setX n v).destoffs = s.destoffs := by simp [State.destoffs]
@[simp] theorem State.destoffs_setF (s : State) (n : Reg) (v : Quad) : (s.setF n v).destoffs = s.destoffs := by simp [State.destoffs]
@[simp] theorem State.destoffs_advance (s : State) (n : Nat) : (s.advance n).destoffs = s.destoffs := by simp [State.destoffs]
@[simp] theorem State.destoffs_jump (s : State) (t : Word) : (s.jump t).destoffs = s.destoffs := by simp [State.destoffs]
@[simp] theorem State.destoffs_takeTrap (s : State) (c : Cause) (t : Word) : (s.takeTrap c t).destoffs = s.destoffs := by simp [State.destoffs]
@[simp] theorem State.destoffs_store (s : State) (a : Word) (n : Nat) (v : Quad) : (s.store a n v).destoffs = s.destoffs := by simp [State.destoffs]
@[simp] theorem State.destoffs_accrue (s : State) (b : BitVec 5) : (s.accrue b).destoffs = s.destoffs := by simp [State.destoffs]

@[simp] theorem State.subvl_setX (s : State) (n : Reg) (v : Word) : (s.setX n v).subvl = s.subvl := by simp [State.subvl]
@[simp] theorem State.subvl_setF (s : State) (n : Reg) (v : Quad) : (s.setF n v).subvl = s.subvl := by simp [State.subvl]
@[simp] theorem State.subvl_advance (s : State) (n : Nat) : (s.advance n).subvl = s.subvl := by simp [State.subvl]
@[simp] theorem State.subvl_jump (s : State) (t : Word) : (s.jump t).subvl = s.subvl := by simp [State.subvl]
@[simp] theorem State.subvl_takeTrap (s : State) (c : Cause) (t : Word) : (s.takeTrap c t).subvl = s.subvl := by simp [State.subvl]
@[simp] theorem State.subvl_store (s : State) (a : Word) (n : Nat) (v : Quad) : (s.store a n v).subvl = s.subvl := by simp [State.subvl]
@[simp] theorem State.subvl_accrue (s : State) (b : BitVec 5) : (s.accrue b).subvl = s.subvl := by simp [State.subvl]

@[simp] theorem State.dsvoffs_setX (s : State) (n : Reg) (v : Word) : (s.setX n v).dsvoffs = s.dsvoffs := by simp [State.dsvoffs]
@[simp] theorem State.dsvoffs_setF (s : State) (n : Reg) (v : Quad) : (s.setF n v).dsvoffs = s.dsvoffs := by simp [State.dsvoffs]
@[simp] theorem State.dsvoffs_advance (s : State) (n : Nat) : (s.advance n).dsvoffs = s.dsvoffs := by simp [State.dsvoffs]
@[simp] theorem State.dsvoffs_jump (s : State) (t : Word) : (s.jump t).dsvoffs = s.dsvoffs := by simp [State.dsvoffs]
@[simp] theorem State.dsvoffs_takeTrap (s : State) (c : Cause) (t : Word) : (s.takeTrap c t).dsvoffs = s.dsvoffs := by simp [State.dsvoffs]
@[simp] theorem State.dsvoffs_store (s : State) (a : Word) (n : Nat) (v : Quad) : (s.store a n v).dsvoffs = s.dsvoffs := by simp [State.dsvoffs]
@[simp] theorem State.dsvoffs_accrue (s : State) (b : BitVec 5) : (s.accrue b).dsvoffs = s.dsvoffs := by simp [State.dsvoffs]

@[simp] theorem State.svpRsvd_setX (s : State) (n : Reg) (v : Word) : (s.setX n v).svpRsvd = s.svpRsvd := by simp [State.svpRsvd]
@[simp] theorem State.svpRsvd_setF (s : State) (n : Reg) (v : Quad) : (s.setF n v).svpRsvd = s.svpRsvd := by simp [State.svpRsvd]
@[simp] theorem State.svpRsvd_advance (s : State) (n : Nat) : (s.advance n).svpRsvd = s.svpRsvd := by simp [State.svpRsvd]
@[simp] theorem State.svpRsvd_jump (s : State) (t : Word) : (s.jump t).svpRsvd = s.svpRsvd := by simp [State.svpRsvd]
@[simp] theorem State.svpRsvd_takeTrap (s : State) (c : Cause) (t : Word) : (s.takeTrap c t).svpRsvd = s.svpRsvd := by simp [State.svpRsvd]
@[simp] theorem State.svpRsvd_store (s : State) (a : Word) (n : Nat) (v : Quad) : (s.store a n v).svpRsvd = s.svpRsvd := by simp [State.svpRsvd]
@[simp] theorem State.svpRsvd_accrue (s : State) (b : BitVec 5) : (s.accrue b).svpRsvd = s.svpRsvd := by simp [State.svpRsvd]

end Sys2Proof.Machine
end

