-- ==== Sys2Proof/Laws/Registers.lean ====
section
/-!
SUPPORT. Register and element reads after writes (10_state.md R21, 41_vector_context.md R207, R208).
-/

namespace Sys2Proof.Machine

/-- x0 reads as zero (R21). -/
@[simp] theorem State.getX_zero (s : State) : s.getX 0#7 = 0#64 := rfl

/-- A write to x0 is discarded (R21). -/
@[simp] theorem State.setX_zero (s : State) (v : Word) : s.setX 0#7 v = s := rfl

/-- Every register after a write. -/
theorem State.getX_setX (s : State) (n m : Reg) (v : Word) :
    (s.setX n v).getX m = if m = n ∧ n ≠ 0#7 then v else s.getX m := by
  unfold State.setX State.getX
  by_cases hn : n = 0#7
  · simp [hn]
  · by_cases hm : m = 0#7
    · have : m ≠ n := fun h => hn (h ▸ hm)
      simp [hm]
      intro h; exact absurd h.symm hn
    · simp only [hn, hm, if_false, ne_eq, not_false_eq_true, and_true]
      by_cases h : m = n
      · subst h; simp
      · have h2 : n.toNat ≠ m.toNat := fun e => h (BitVec.eq_of_toNat_eq e.symm)
        simp [h, h2]

/-- The register written, when it is not x0. -/
theorem State.getX_setX_self (s : State) (n : Reg) (v : Word) (h : n ≠ 0#7) : (s.setX n v).getX n = v := by
  simp [State.getX_setX, h]

/-- Every other register. -/
theorem State.getX_setX_other (s : State) (n m : Reg) (v : Word) (h : m ≠ n) :
    (s.setX n v).getX m = s.getX m := by
  simp [State.getX_setX, h]

/-- Every f register after a write: none is hardwired (R39). -/
theorem State.getF_setF (s : State) (n m : Reg) (v : Quad) :
    (s.setF n v).getF m = if m = n then v else s.getF m := by
  unfold State.setF State.getF
  by_cases h : m = n
  · subst h; simp
  · have h2 : n.toNat ≠ m.toNat := fun e => h (BitVec.eq_of_toNat_eq e.symm)
    simp [h, h2]

/-- The entry of x0 is not written. -/
@[simp] theorem State.x0_setX (s : State) (n : Reg) (v : Word) : (s.setX n v).x[0] = s.x[0] := by
  unfold State.setX
  by_cases hn : n = 0#7
  · simp [hn]
  · have : n.toNat ≠ 0 := fun e => hn (BitVec.eq_of_toNat_eq (by simpa using e))
    simp [hn, this]

/-- An element write is one register write (R208). -/
theorem elemWr_eq (s : State) (n : Reg) (k : Nat) {w : Nat} (v : BitVec w) :
    elemWr s n k v = s.setX (BitVec.ofNat 7 (elemReg xlen n k w))
      (putBits (s.getX (BitVec.ofNat 7 (elemReg xlen n k w))) (elemLo xlen k w) v) := rfl

/-- A register other than the one that holds the element is unchanged (R208). -/
theorem getX_elemWr_other (s : State) (n : Reg) (k : Nat) {w : Nat} (v : BitVec w) (m : Reg)
    (h : m ≠ BitVec.ofNat 7 (elemReg xlen n k w)) : (elemWr s n k v).getX m = s.getX m := by
  rw [elemWr_eq, State.getX_setX_other _ _ _ _ h]

/-- A 64-bit element is the whole register (R208). -/
theorem elemWr_64 (s : State) (n : Reg) (v : BitVec 64) : elemWr s n 0 v = s.setX n v := by
  have h : BitVec.ofNat 7 (elemReg xlen n 0 64) = n := by
    apply BitVec.eq_of_toNat_eq; simp [elemReg]
  rw [elemWr_eq, h]
  simp [elemLo]

/-- A 64-bit element is the whole register (R207). -/
theorem elemRd_64 (s : State) (n : Reg) : elemRd s n 0 64 = s.getX n := by
  have h : BitVec.ofNat 7 (elemReg xlen n 0 64) = n := by
    apply BitVec.eq_of_toNat_eq; simp [elemReg]
  unfold elemRd
  rw [h]
  simp [elemLo]

/-- Element 0 of any width lies in the start register. -/
@[simp] theorem elemReg_zero (len : Nat) (n : Reg) (w : Nat) : elemReg len n 0 w = n.toNat := by
  simp [elemReg]

/-- Element 0 of any width is in the file. -/
@[simp] theorem inFile_zero (len : Nat) (n : Reg) (w : Nat) : inFile len n 0 w = true := by
  have := n.isLt
  simpa [inFile] using this

end Sys2Proof.Machine
end

