-- ==== Sys2Proof/Laws/Memory.lean ====
section
/-!
SUPPORT. Memory: a byte read after a write, the bytes a store leaves alone, and the canonical form, which
every memory operation keeps. What `memRead` and `memWrite` can answer (20_memory.md R53, R54).
-/

namespace Sys2Proof.Machine

/-- Reading any byte after one byte is written (R51). -/
theorem Memory.read_write (m : Memory) (a b : Nat) (v : Byte) :
    Memory.read (Memory.write m a v) b = if b = a then some v else Memory.read m b := by
  induction m with
  | nil => simp [Memory.write, Memory.read]
  | cons e rest ih =>
    obtain ⟨c, w⟩ := e
    unfold Memory.write
    split
    · simp [Memory.read]
    · split
      · rename_i h1 h2; subst h2
        by_cases hb : b = a <;> simp [Memory.read, hb]
      · rename_i h1 h2
        by_cases hb : b = c
        · subst hb
          have : b ≠ a := fun e => h2 e.symm
          simp [Memory.read, this]
        · simp [Memory.read, hb, ih]

/-- The addresses of memory after one byte is written. -/
theorem Memory.map_fst_write (m : Memory) (a : Nat) (v : Byte) :
    (Memory.write m a v).map Prod.fst = insertAddr (m.map Prod.fst) a := by
  induction m with
  | nil => simp [Memory.write, insertAddr]
  | cons e rest ih =>
    obtain ⟨c, w⟩ := e
    simp only [Memory.write, List.map_cons, insertAddr]
    by_cases h1 : a < c
    · simp [h1]
    · by_cases h2 : a = c
      · simp [h2]
      · simp [h1, h2, ih]

/-- A rising list stays rising when an address is inserted, and its head is the smaller of the two. -/
theorem rising_insertAddr (l : List Nat) (a : Nat) (h : rising l = true) : rising (insertAddr l a) = true := by
  induction l with
  | nil => rfl
  | cons b rest ih =>
    unfold insertAddr
    split
    · rename_i h1; simp [rising, h1, h]
    · split
      · exact h
      · rename_i h1 h2
        have hlt : b < a := by omega
        match rest, h, ih with
        | [], _, _ => simp [insertAddr, rising, hlt]
        | c :: r, h, ih =>
          simp only [rising, Bool.and_eq_true, decide_eq_true_eq] at h
          have ih' := ih h.2
          unfold insertAddr at ih' ⊢
          split at ih'
          · rename_i h3; simp [h3, rising, hlt, h.2]
          · rename_i h3
            split at ih'
            · rename_i h4; simp [h4, rising, h.2]; omega
            · rename_i h4; simp only [h3, h4, if_false, rising, h.1, decide_true, Bool.true_and, ih']

/-- Membership after an insertion. -/
theorem mem_insertAddr (l : List Nat) (a b : Nat) : b ∈ insertAddr l a ↔ b = a ∨ b ∈ l := by
  induction l with
  | nil => simp [insertAddr]
  | cons c rest ih =>
    unfold insertAddr
    split
    · simp
    · split
      · rename_i h; subst h; simp
      · simp only [List.mem_cons, ih]
        constructor
        · rintro (h | h | h) <;> simp [h]
        · rintro (h | h | h) <;> simp [h]

/-- One byte written keeps the canonical form. -/
theorem Memory.wf_write (m : Memory) (a : Nat) (v : Byte) (h : Memory.wf m = true) :
    Memory.wf (Memory.write m a v) = true := by
  unfold Memory.wf at *
  rw [Memory.map_fst_write]
  exact rising_insertAddr _ _ h

/-- A store of `n` bytes keeps the canonical form. -/
theorem wf_writeLE (m : Memory) (a n : Nat) (v : Quad) (h : Memory.wf m = true) :
    Memory.wf (writeLE m a n v) = true := by
  induction n generalizing m a v with
  | zero => exact h
  | succ n ih => exact ih _ _ _ (Memory.wf_write _ _ _ h)

/-- Bytes placed keep the canonical form. -/
theorem wf_placeBytes (m : Memory) (a : Nat) (bs : List Byte) (h : Memory.wf m = true) :
    Memory.wf (placeBytes m a bs) = true := by
  induction bs generalizing m a with
  | nil => exact h
  | cons b r ih => exact ih _ _ (Memory.wf_write _ _ _ h)

/-- A byte outside the `n` bytes stored is unchanged (R54). -/
theorem read_writeLE_outside (m : Memory) (a n : Nat) (v : Quad) (b : Nat) (h : b < a ∨ a + n ≤ b) :
    Memory.read (writeLE m a n v) b = Memory.read m b := by
  induction n generalizing m a v with
  | zero => rfl
  | succ n ih =>
    unfold writeLE
    rw [ih _ _ _ (by omega), Memory.read_write]
    have : b ≠ a := by omega
    simp [this]

/-- Byte k of the bytes stored is bits 8k+7:8k of the value (R51). -/
theorem read_writeLE_inside (m : Memory) (a n : Nat) (v : Quad) (k : Nat) (h : k < n) :
    Memory.read (writeLE m a n v) (a + k) = some (v.extractLsb' (8 * k) 8) := by
  induction n generalizing m a v k with
  | zero => omega
  | succ n ih =>
    unfold writeLE
    cases k with
    | zero =>
      rw [read_writeLE_outside _ _ _ _ _ (by omega), Memory.read_write]
      simp only [Nat.add_zero, if_true]
      congr 1
    | succ k =>
      rw [show a + (k + 1) = a + 1 + k by omega, ih _ _ _ _ (by omega)]
      congr 1
      apply BitVec.eq_of_getLsbD_eq
      intro i hi
      simp only [BitVec.getLsbD_extractLsb', hi, decide_true, Bool.true_and, BitVec.getLsbD_ushiftRight]
      congr 1
      omega

/-- The marked addresses stay rising. -/
theorem rising_markStored (l : List Nat) (a n : Nat) (h : rising l = true) :
    rising (markStored l a n) = true := by
  induction n generalizing l a with
  | zero => exact h
  | succ n ih => exact ih _ _ (rising_insertAddr _ _ h)

/-- Which addresses are marked after a store of `n` bytes (R62). -/
theorem mem_markStored (l : List Nat) (a n b : Nat) :
    b ∈ markStored l a n ↔ b ∈ l ∨ (a ≤ b ∧ b < a + n) := by
  induction n generalizing l a with
  | zero => simp [markStored]
  | succ n ih =>
    unfold markStored
    rw [ih, mem_insertAddr]
    constructor
    · rintro ((h | h) | h)
      · right; omega
      · exact Or.inl h
      · right; omega
    · rintro (h | h)
      · exact Or.inl (Or.inr h)
      · by_cases hb : b = a
        · exact Or.inl (Or.inl hb)
        · right; omega

/-- What `MemRead` answers when it does not raise (R53). -/
theorem memRead_ok {s : State} {a : Word} {n : Nat} {v : Quad} (h : memRead s a n = .ok v) :
    a.toNat % n = 0 ∧ backedRange s.platform a.toNat n = true ∧ readLE s.mem a.toNat n = .ok v := by
  unfold memRead at h
  split at h
  · cases h
  · split at h
    · cases h
    · rename_i h1 h2
      exact ⟨by omega, by simpa using h2, h⟩

/-- `MemRead` of an aligned, backed range is the little-endian read (R53). -/
theorem memRead_eq {s : State} {a : Word} {n : Nat} (h1 : a.toNat % n = 0)
    (h2 : backedRange s.platform a.toNat n = true) : memRead s a n = readLE s.mem a.toNat n := by
  simp [memRead, h1, h2]

/-- What `MemWrite` answers when it does not raise (R54). -/
theorem memWrite_ok {s s' : State} {a : Word} {n : Nat} {v : Quad} (h : memWrite s a n v = .ok s') :
    a.toNat % n = 0 ∧ backedRange s.platform a.toNat n = true ∧ s' = s.store a n v := by
  unfold memWrite at h
  split at h
  · cases h
  · split at h
    · cases h
    · rename_i h1 h2
      cases h
      exact ⟨by omega, by simpa using h2, rfl⟩

/-- `MemWrite` to an aligned, backed range stores (R54). -/
theorem memWrite_eq {s : State} {a : Word} {n : Nat} {v : Quad} (h1 : a.toNat % n = 0)
    (h2 : backedRange s.platform a.toNat n = true) : memWrite s a n v = .ok (s.store a n v) := by
  simp [memWrite, h1, h2]

end Sys2Proof.Machine
end

