-- ==== Sys2Proof/Laws/Loops.lean ====
section
/-!
SUPPORT. The hardware loops (41_vector_context.md R216, R217, R219): a property of states that the marks and the
element operation keep holds wherever the loop ends, and an instruction with neither context is one element
(R200, R219).
-/

namespace Sys2Proof.Machine

/-- The state a loop ends in, whether it completes or raises. -/
def loopState : LoopResult → State
  | .ok s => s
  | .error (s, _) => s

@[simp] theorem loopState_ok (s : State) : loopState (.ok s) = s := rfl

@[simp] theorem loopState_error (s : State) (e : Stop) : loopState (.error (s, e)) = s := rfl

/-- What the marks and the elements of a sub-vector keep, the sub-vector keeps. -/
theorem subLoop_keeps (P : State → Prop) {mark : Nat → State → State} {op : ElementOp}
    (hm : ∀ k s, P s → P (mark k s)) (ho : ∀ k s s', P s → op k s = .ok s' → P s')
    (fuel sub : Nat) (s : State) (hs : P s) : P (loopState (subLoop mark op fuel sub s)) := by
  induction fuel generalizing sub s with
  | zero => exact hs
  | succ fuel ih =>
    unfold subLoop
    split
    · exact hm _ _ hs
    · rename_i s' h
      exact ih _ _ (ho _ _ _ (hm _ _ hs) h)

/-- What every sub-vector keeps, the single-predicated loop keeps. -/
theorem singleLoop_keeps (P : State → Prop) {active : Nat → Bool} {dv : Bool}
    {body : Nat → Nat → State → LoopResult} (hb : ∀ i s0 s, P s → P (loopState (body i s0 s)))
    (fuel i s0 : Nat) (s : State) (hs : P s) : P (loopState (singleLoop active dv body fuel i s0 s)) := by
  induction fuel generalizing i s0 s with
  | zero => exact hs
  | succ fuel ih =>
    unfold singleLoop
    have h := hb i s0 s hs
    split
    · split
      · rename_i e heq; rw [heq] at h; exact h
      · rename_i s' heq
        rw [heq] at h
        split
        · exact ih _ _ _ h
        · exact h
    · exact ih _ _ _ hs

/-- What every sub-vector keeps, the twin-predicated loop keeps. -/
theorem twinLoop_keeps (P : State → Prop) {vle : Nat} {aS aD : Nat → Bool} {sv dv : Bool}
    {body : Nat → Nat → Nat → State → LoopResult} (hb : ∀ i j s0 s, P s → P (loopState (body i j s0 s)))
    (fuel i j s0 : Nat) (s : State) (hs : P s) :
    P (loopState (twinLoop vle aS aD sv dv body fuel i j s0 s)) := by
  induction fuel generalizing i j s0 s with
  | zero => exact hs
  | succ fuel ih =>
    unfold twinLoop
    simp only
    have h := hb (nextActive aS (vle - i) i) (nextActive aD (vle - j) j) s0 s hs
    split
    · exact hs
    · split
      · rename_i e heq; rw [heq] at h; exact h
      · rename_i s' heq
        rw [heq] at h
        split
        · exact ih _ _ _ _ h
        · exact h

/-- What the marks and the element operation keep, a single-predicated instruction keeps. -/
theorem runSingle_keeps (P : State → Prop) (fm : Form) (pred : Pred) (dv : Bool) (op : Nat → ElementOp)
    (hm : ∀ i sub s, P s → P (fm.markSingle i sub s)) (ho : ∀ i sub s s', P s → op i sub s = .ok s' → P s')
    (s : State) (hs : P s) : P (loopState (runSingle fm pred dv op s)) := by
  unfold runSingle
  have h := singleLoop_keeps P (active := (predMask s pred).active) (dv := dv)
    (body := fun i s0 => subLoop (fm.markSingle i) (op i) (fm.svl - s0) s0)
    (fun i s0 s hs => subLoop_keeps P (hm i) (ho i) _ _ s hs)
    (fm.vle s - fm.firstSrc s) (fm.firstSrc s) (fm.firstSub s) s hs
  split
  · rename_i e heq; rw [heq] at h; exact h
  · rename_i s' heq
    rw [heq] at h
    exact hm _ _ _ h

/-- What the marks and the element operation keep, a twin-predicated instruction keeps. -/
theorem runTwin_keeps (P : State → Prop) (fm : Form) (tpred : TPred) (sv dv : Bool)
    (op : Nat → Nat → ElementOp) (hm : ∀ i j sub s, P s → P (fm.markTwin i j sub s))
    (ho : ∀ i j sub s s', P s → op i j sub s = .ok s' → P s') (s : State) (hs : P s) :
    P (loopState (runTwin fm tpred sv dv op s)) := by
  unfold runTwin
  have h := twinLoop_keeps P (vle := fm.vle s) (aS := (sourceMask s tpred).active)
    (aD := (destMask s tpred).active) (sv := sv) (dv := dv)
    (body := fun i j s0 => subLoop (fm.markTwin i j) (op i j) (fm.svl - s0) s0)
    (fun i j s0 s hs => subLoop_keeps P (hm i j) (ho i j) _ _ s hs)
    (fm.vle s - fm.firstDest s) (fm.firstSrc s) (fm.firstDest s) (fm.firstSub s) s hs
  split
  · rename_i e heq; rw [heq] at h; exact h
  · rename_i s' heq
    rw [heq] at h
    exact hm _ _ _ _ h

/-- Where no element raises, a sub-vector completes. -/
theorem subLoop_ok (P : State → Prop) {mark : Nat → State → State} {op : ElementOp} {top : Nat}
    (hm : ∀ k s, P s → P (mark k s)) (ho : ∀ k s, k < top → P s → ∃ s', op k s = .ok s' ∧ P s')
    (fuel sub : Nat) (hf : sub + fuel ≤ top ∨ fuel = 0) (s : State) (hs : P s) :
    ∃ s', subLoop mark op fuel sub s = .ok s' ∧ P s' := by
  induction fuel generalizing sub s with
  | zero => exact ⟨s, rfl, hs⟩
  | succ fuel ih =>
    obtain ⟨s', h1, h2⟩ := ho sub _ (by omega) (hm sub s hs)
    obtain ⟨s'', h3, h4⟩ := ih (sub + 1) (by omega) s' h2
    exact ⟨s'', by simp [subLoop, h1, h3], h4⟩

/-- Where no element raises, a single-predicated loop completes. -/
theorem singleLoop_ok (P : State → Prop) {active : Nat → Bool} {dv : Bool} {top : Nat}
    {body : Nat → Nat → State → LoopResult}
    (hb : ∀ i s0 s, i < top → P s → ∃ s', body i s0 s = .ok s' ∧ P s')
    (fuel i s0 : Nat) (hf : i + fuel ≤ top ∨ fuel = 0) (s : State) (hs : P s) :
    ∃ s', singleLoop active dv body fuel i s0 s = .ok s' ∧ P s' := by
  induction fuel generalizing i s0 s with
  | zero => exact ⟨s, rfl, hs⟩
  | succ fuel ih =>
    unfold singleLoop
    split
    · obtain ⟨s', h1, h2⟩ := hb i s0 s (by omega) hs
      rw [h1]
      cases dv
      · exact ⟨s', by simp, h2⟩
      · simpa using ih (i + 1) 0 (by omega) s' h2
    · exact ih (i + 1) s0 (by omega) s hs

/-- Where no element raises, a twin-predicated loop completes. -/
theorem twinLoop_ok (P : State → Prop) {vle : Nat} {aS aD : Nat → Bool} {sv dv : Bool}
    {body : Nat → Nat → Nat → State → LoopResult}
    (hb : ∀ i j s0 s, i < vle → j < vle → P s → ∃ s', body i j s0 s = .ok s' ∧ P s')
    (fuel i j s0 : Nat) (s : State) (hs : P s) :
    ∃ s', twinLoop vle aS aD sv dv body fuel i j s0 s = .ok s' ∧ P s' := by
  induction fuel generalizing i j s0 s with
  | zero => exact ⟨s, rfl, hs⟩
  | succ fuel ih =>
    unfold twinLoop
    simp only
    split
    · exact ⟨s, rfl, hs⟩
    · rename_i h
      obtain ⟨s', h1, h2⟩ := hb (nextActive aS (vle - i) i) (nextActive aD (vle - j) j) s0 s (by omega)
        (by omega) hs
      rw [h1]
      cases dv
      · exact ⟨s', by simp, h2⟩
      · simpa using ih _ _ _ s' h2

/-- Where no element raises, a single-predicated instruction completes. -/
theorem runSingle_ok (P : State → Prop) (fm : Form) (pred : Pred) (dv : Bool) (op : Nat → ElementOp)
    (s : State) (hm : ∀ i sub t, P t → P (fm.markSingle i sub t))
    (ho : ∀ i sub t, i < fm.vle s → sub < fm.svl → P t → ∃ t', op i sub t = .ok t' ∧ P t') (hs : P s) :
    ∃ t, runSingle fm pred dv op s = .ok (fm.markSingle 0 0 t) ∧ P t := by
  obtain ⟨t, h1, h2⟩ := singleLoop_ok P (active := (predMask s pred).active) (dv := dv) (top := fm.vle s)
    (body := fun i s0 => subLoop (fm.markSingle i) (op i) (fm.svl - s0) s0)
    (fun i s0 t hi ht => subLoop_ok P (hm i) (fun k t' hk ht' => ho i k t' hi hk ht') _ _ (by omega) t ht)
    (fm.vle s - fm.firstSrc s) (fm.firstSrc s) (fm.firstSub s) (by omega) s hs
  exact ⟨t, by simp [runSingle, h1], h2⟩

/-- Where no element raises, a twin-predicated instruction completes. -/
theorem runTwin_ok (P : State → Prop) (fm : Form) (tpred : TPred) (sv dv : Bool)
    (op : Nat → Nat → ElementOp) (s : State) (hm : ∀ i j sub t, P t → P (fm.markTwin i j sub t))
    (ho : ∀ i j sub t, i < fm.vle s → j < fm.vle s → sub < fm.svl → P t → ∃ t', op i j sub t = .ok t' ∧ P t')
    (hs : P s) :
    ∃ t, runTwin fm tpred sv dv op s = .ok (fm.markTwin 0 0 0 t) ∧ P t := by
  obtain ⟨t, h1, h2⟩ := twinLoop_ok P (vle := fm.vle s) (aS := (sourceMask s tpred).active)
    (aD := (destMask s tpred).active) (sv := sv) (dv := dv)
    (body := fun i j s0 => subLoop (fm.markTwin i j) (op i j) (fm.svl - s0) s0)
    (fun i j s0 t hi hj ht =>
      subLoop_ok P (hm i j) (fun k t' hk ht' => ho i j k t' hi hj hk ht') _ _ (by omega) t ht)
    (fm.vle s - fm.firstDest s) (fm.firstSrc s) (fm.firstDest s) (fm.firstSub s) s hs
  exact ⟨t, by simp [runTwin, h1], h2⟩

/-- Everything a prefixed instruction can do when it answers a next state: it is illegal, its loop completes,
or an element raises. -/
theorem runPrefixed_next {fm : Form} {ok : Bool} {loop : State → LoopResult} {s t : State}
    (h : runPrefixed fm ok loop s = .next t) :
    t = s.takeTrap .illegalInstruction fm.word ∨
    (∃ s', loop (beginPrefixed fm s) = .ok s' ∧ t = s'.advance fm.ilen) ∨
    (∃ s' c v, loop (beginPrefixed fm s) = .error (s', .raise c v) ∧ t = s'.takeTrap c v) := by
  unfold runPrefixed at h
  split at h
  · split at h
    · rename_i s' stop heq
      cases stop with
      | raise c v =>
        simp only [stopAt, Host.Outcome.next.injEq] at h
        exact .inr (.inr ⟨s', c, v, heq, h.symm⟩)
      | stuck f => cases h
    · rename_i s' heq
      cases h
      exact .inr (.inl ⟨s', heq, rfl⟩)
  · cases h
    exact .inl rfl

/-- With neither context the single-predicated loop is the one element 0, if the predicate's bit 0 lets it
run, and nothing is recorded (R200, R216). -/
theorem runSingle_default (fm : Form) (pred : Pred) (dv : Bool) (op : Nat → ElementOp) (s : State)
    (h1 : fm.vltyp = .default) (h2 : fm.svlen = .subvl) :
    runSingle fm pred dv op s =
      if (predMask s pred).active 0 then
        (match op 0 0 s with
         | .error e => .error (s, e)
         | .ok s' => .ok s')
      else .ok s := by
  have hv : fm.ctxVL = false := by simp [Form.ctxVL, h1]
  have hs : fm.ctxSV = false := by simp [Form.ctxSV, h2]
  have hl : fm.svl = 1 := by simp [Form.svl, h2, Svlen.length]
  have hm : ∀ i k t, fm.markSingle i k t = t := by
    intro i k t; simp [Form.markSingle, Form.setSrc, Form.setSub, hv, hs]
  have hsub : ∀ t, subLoop (fm.markSingle 0) (op 0) 1 0 t =
      (match op 0 0 t with
       | .error e => .error (t, e)
       | .ok s' => .ok s') := by
    intro t; cases h : op 0 0 t <;> simp [subLoop, hm, h]
  unfold runSingle
  simp only [Form.vle, Form.firstSrc, Form.firstSub, hv, hs, hl, hm, Bool.false_eq_true, if_false,
    Nat.sub_zero, singleLoop, hsub]
  cases (predMask s pred).active 0 with
  | false => simp
  | true =>
    cases op 0 0 s with
    | error e => simp
    | ok s' => cases dv <;> simp

/-- With neither context the twin-predicated loop is the one element 0, if both predicates' bit 0 let it run,
and nothing is recorded (R200, R217). -/
theorem runTwin_default (fm : Form) (tpred : TPred) (sv dv : Bool) (op : Nat → Nat → ElementOp) (s : State)
    (h1 : fm.vltyp = .default) (h2 : fm.svlen = .subvl) :
    runTwin fm tpred sv dv op s =
      if (sourceMask s tpred).active 0 && (destMask s tpred).active 0 then
        (match op 0 0 0 s with
         | .error e => .error (s, e)
         | .ok s' => .ok s')
      else .ok s := by
  have hv : fm.ctxVL = false := by simp [Form.ctxVL, h1]
  have hs : fm.ctxSV = false := by simp [Form.ctxSV, h2]
  have hl : fm.svl = 1 := by simp [Form.svl, h2, Svlen.length]
  have hm : ∀ i j k t, fm.markTwin i j k t = t := by
    intro i j k t; simp [Form.markTwin, Form.setSrc, Form.setDest, Form.setSub, hv, hs]
  have hsub : ∀ t, subLoop (fm.markTwin 0 0) (op 0 0) 1 0 t =
      (match op 0 0 0 t with
       | .error e => .error (t, e)
       | .ok s' => .ok s') := by
    intro t; cases h : op 0 0 0 t <;> simp [subLoop, hm, h]
  unfold runTwin
  simp only [Form.vle, Form.firstSrc, Form.firstDest, Form.firstSub, hv, hs, hl, hm, Bool.false_eq_true,
    if_false, Nat.sub_zero, twinLoop, nextActive]
  cases (sourceMask s tpred).active 0 with
  | false => simp
  | true =>
    cases (destMask s tpred).active 0 with
    | false => simp
    | true =>
      simp only [if_true, hsub]
      cases op 0 0 0 s with
      | error e => simp
      | ok s' => cases dv <;> simp

end Sys2Proof.Machine
end

