-- ==== Sys2Proof/Laws/Context.lean ====
section
/-!
SUPPORT. The checks on the context fields and the predicates as the statements write them: from the fields of the
instruction and from bits of x9, x10 and x11 (00_scope.md R7, 30_encoding.md R96, R97, 41_vector_context.md R210).
-/

namespace Sys2Proof.Machine

/-- The static checks on the context fields pass exactly when the platform has the options they use. -/
theorem legal_iff (fm : Form) (p : Platform) : fm.legal p = true ↔ Supported p fm.svlen fm.vltyp := by
  obtain ⟨word, ilen, sv, v⟩ := fm
  cases v <;> cases sv <;> simp [Form.legal, Form.ctxVL, Form.ctxSV, Supported] <;> tauto

/-- `ctxVL` is a nonzero VLtyp (R200). -/
theorem ctxVL_iff (fm : Form) : fm.ctxVL = true ↔ fm.vltyp ≠ .default := by simp [Form.ctxVL]

/-- `ctxSV` is a nonzero svlen (R201). -/
theorem ctxSV_iff (fm : Form) : fm.ctxSV = true ↔ fm.svlen ≠ .subvl := by simp [Form.ctxSV]

/-- svl is the svlen code plus one (R201, R94). -/
theorem svl_eq (fm : Form) : fm.svl = fm.svlen.code.toNat + 1 := by
  obtain ⟨word, ilen, sv, v⟩ := fm
  cases sv <;> rfl

/-- The snapshot of a pred field is active where the register's bit says so. -/
@[simp] theorem predMask_active (s : State) (p : Pred) : (predMask s p).active = PredActive s p := by
  funext i; cases p <;> rfl

/-- The snapshot of the source side of a tpred field is active where the bit of x9 says so. -/
@[simp] theorem sourceMask_active (s : State) (t : TPred) : (sourceMask s t).active = SourceActive s t := by
  funext i; cases t <;> rfl

/-- The snapshot of the destination side of a tpred field is active where the bit of x10 says so. -/
@[simp] theorem destMask_active (s : State) (t : TPred) : (destMask s t).active = DestActive s t := by
  funext i; cases t <;> rfl

/-- A prefixed instruction with an absent option or x0 as the source of VL is illegal and changes nothing. -/
theorem runPrefixed_unsupported {fm : Form} {s : State} (h : ¬Supported s.platform fm.svlen fm.vltyp)
    (ok : Bool) (loop : State → LoopResult) : runPrefixed fm ok loop s = illegal fm.word s := by
  have hl : fm.legal s.platform = false := by
    cases e : fm.legal s.platform with
    | false => rfl
    | true => exact absurd ((legal_iff fm s.platform).1 e) h
  simp [runPrefixed, hl]

end Sys2Proof.Machine
end

