-- ==== Sys2Proof/Laws/Encoding.lean ====
section
/-!
SUPPORT. What each field reader reads from each encoding: the fields of a base word, of bits 17:7 and of a
prefixed word, and the operand records read back whole.
-/

namespace Sys2Proof

/-- A field that lies within the low part of a concatenation. -/
theorem extract_append_low {n m : Nat} (a : BitVec n) (b : BitVec m) (lo w : Nat) (h : lo + w ≤ m) :
    (a ++ b).extractLsb' lo w = b.extractLsb' lo w := by
  apply BitVec.eq_of_getLsbD_eq
  intro i hi
  rw [BitVec.getLsbD_extractLsb', BitVec.getLsbD_extractLsb', BitVec.getLsbD_append]
  have : lo + i < m := by omega
  simp [this]

/-- A field that lies within the high part of a concatenation. -/
theorem extract_append_high {n m : Nat} (a : BitVec n) (b : BitVec m) (lo w : Nat) (h : m ≤ lo) :
    (a ++ b).extractLsb' lo w = a.extractLsb' (lo - m) w := by
  apply BitVec.eq_of_getLsbD_eq
  intro i hi
  rw [BitVec.getLsbD_extractLsb', BitVec.getLsbD_extractLsb', BitVec.getLsbD_append]
  have h1 : ¬lo + i < m := by omega
  have h2 : lo + i - m = lo - m + i := by omega
  simp [h1, h2]

/-- A field as wide as the whole. -/
theorem extract_whole {n : Nat} (a : BitVec n) : a.extractLsb' 0 n = a := by
  apply BitVec.eq_of_getLsbD_eq
  intro i hi
  rw [BitVec.getLsbD_extractLsb']
  simp [hi]

/-- A field of a field. -/
theorem extract_extract {n : Nat} (a : BitVec n) (lo w lo' w' : Nat) (h : lo' + w' ≤ w) :
    (a.extractLsb' lo w).extractLsb' lo' w' = a.extractLsb' (lo + lo') w' := by
  apply BitVec.eq_of_getLsbD_eq
  intro i hi
  rw [BitVec.getLsbD_extractLsb', BitVec.getLsbD_extractLsb', BitVec.getLsbD_extractLsb']
  have h1 : lo' + i < w := by omega
  simp [h1, Nat.add_assoc]

/-- A bit of a concatenation. -/
theorem getLsbD_append_low {n m : Nat} (a : BitVec n) (b : BitVec m) (i : Nat) (h : i < m) :
    (a ++ b).getLsbD i = b.getLsbD i := by
  rw [BitVec.getLsbD_append]; simp [h]

/-- A bit of a concatenation. -/
theorem getLsbD_append_high {n m : Nat} (a : BitVec n) (b : BitVec m) (i : Nat) (h : m ≤ i) :
    (a ++ b).getLsbD i = a.getLsbD (i - m) := by
  rw [BitVec.getLsbD_append]; simp [show ¬i < m by omega]

/-- Two adjacent fields joined are one field. -/
theorem extract_join {n : Nat} (a : BitVec n) (lo w w' : Nat) :
    a.extractLsb' (lo + w) w' ++ a.extractLsb' lo w = a.extractLsb' lo (w' + w) := by
  apply BitVec.eq_of_getLsbD_eq
  intro i hi
  rw [BitVec.getLsbD_append, BitVec.getLsbD_extractLsb', BitVec.getLsbD_extractLsb',
    BitVec.getLsbD_extractLsb']
  by_cases h : i < w
  · simp [h, hi]
  · have h1 : i - w < w' := by omega
    have h2 : lo + w + (i - w) = lo + i := by omega
    simp [h, h1, h2, hi]

/-! ### Immediates and register numbers that an encoding splits -/

/-- immS is split in two (R72). -/
@[simp] theorem join_immS (imm : BitVec 12) : imm.extractLsb' 5 7 ++ imm.extractLsb' 0 5 = imm :=
  (extract_join imm 0 5 7).trans (extract_whole imm)

/-- A 6-bit register number is split in two (R85). -/
@[simp] theorem join_reg6 (r : BitVec 6) : bit5 r ++ lo5 r = r :=
  (extract_join r 0 5 1).trans (extract_whole r)

/-- A 7-bit register number is split in three (R85). -/
@[simp] theorem join_reg7 (r : BitVec 7) : bit6 r ++ bit5 r ++ lo5 r = r := by
  have h : bit6 r ++ bit5 r ++ lo5 r = (bit6 r ++ (bit5 r ++ lo5 r)).cast (by omega) := by
    rw [BitVec.append_assoc]
  rw [h]
  have h2 : bit5 r ++ lo5 r = r.extractLsb' 0 6 := extract_join r 0 5 1
  rw [h2]
  exact (extract_join r 0 6 1).trans (extract_whole r)

/-- A branch offset is split in four, its bit 0 being zero (R131). -/
theorem join_immB (off : BitVec 13) (h : off.getLsbD 0 = false) :
    off.extractLsb' 12 1 ++ off.extractLsb' 11 1 ++ off.extractLsb' 5 6 ++ off.extractLsb' 1 4 ++ 0#1 = off := by
  have h0 : off[0] = false := by simpa using h
  apply BitVec.eq_of_getLsbD_eq
  intro i hi
  simp only [BitVec.getLsbD_append, BitVec.getLsbD_extractLsb']
  rcases i with _ | _ | _ | _ | _ | _ | _ | _ | _ | _ | _ | _ | _ | i <;> first | omega | simp [h0]

/-- A jump offset is split in four, its bit 0 being zero (R131). -/
theorem join_immJ (off : BitVec 21) (h : off.getLsbD 0 = false) :
    off.extractLsb' 20 1 ++ off.extractLsb' 12 8 ++ off.extractLsb' 11 1 ++ off.extractLsb' 1 10 ++ 0#1 = off := by
  have h0 : off[0] = false := by simpa using h
  apply BitVec.eq_of_getLsbD_eq
  intro i hi
  simp only [BitVec.getLsbD_append, BitVec.getLsbD_extractLsb']
  rcases i with _ | _ | _ | _ | _ | _ | _ | _ | _ | _ | _ | _ | _ | _ | _ | _ | _ | _ | _ | _ | _ | i <;>
    first | omega | simp [h0]

/-! ### Field codes -/

/-- itype reads back (R102). -/
@[simp] theorem Ew.ofCode_code (e : Ew) : Ew.ofCode e.code = e := by cases e <;> rfl

/-- svlen reads back (R94). -/
@[simp] theorem Svlen.ofCode_code (v : Svlen) : Svlen.ofCode v.code = v := by cases v <;> rfl

/-- pred reads back (R96). -/
@[simp] theorem Pred.ofCode_code (p : Pred) : Pred.ofCode p.code = .ok p := by cases p <;> rfl

/-- pred reads back through the two bits of vitp6, when it fits (R100). -/
theorem Pred.ofCode_vitp6 (p : Pred) (h : p.fitsVitp6 = true) :
    Pred.ofCode (0#1 ++ p.code.extractLsb' 0 2) = .ok p := by cases p <;> first | rfl | cases h

/-- tpred reads back through its two parts (R101). -/
@[simp] theorem TPred.ofCode_vitp7 (t : TPred) :
    TPred.ofCode (t.code.extractLsb' 2 1 ++ t.code.extractLsb' 0 2) = t := by cases t <;> rfl

/-- VLtyp reads back, when it is encodable (R106, R304, R306). -/
theorem VLtyp.ofCode_code (v : VLtyp) (h : v.wf = true) : VLtyp.ofCode v.code = .ok v := by
  have b0 : ∀ (t m : BitVec 1) (d f : BitVec 5), (t ++ d ++ f ++ m).getLsbD 0 = m.getLsbD 0 := by
    intro t m d f; rw [getLsbD_append_low _ _ _ (by omega)]
  have b11 : ∀ (t m : BitVec 1) (d f : BitVec 5), (t ++ d ++ f ++ m).getLsbD 11 = t.getLsbD 0 := by
    intro t m d f
    rw [getLsbD_append_high _ _ _ (by omega), getLsbD_append_high _ _ _ (by omega),
      getLsbD_append_high _ _ _ (by omega)]
  have fd : ∀ (t m : BitVec 1) (d f : BitVec 5), (t ++ d ++ f ++ m).extractLsb' 6 5 = d := by
    intro t m d f
    simp (disch := omega) only [extract_append_high, extract_append_low, extract_whole, Nat.reduceSub]
  have ff : ∀ (t m : BitVec 1) (d f : BitVec 5), (t ++ d ++ f ++ m).extractLsb' 1 5 = f := by
    intro t m d f
    simp (disch := omega) only [extract_append_high, extract_append_low, extract_whole, Nat.reduceSub]
  have nz : ∀ (t m : BitVec 1) (d f : BitVec 5), t ++ d ++ f ++ m = 0#12 →
      t.getLsbD 0 = false ∧ m.getLsbD 0 = false ∧ d = 0#5 ∧ f = 0#5 := by
    intro t m d f e
    refine ⟨?_, ?_, ?_, ?_⟩
    · rw [← b11 t m d f, e]; rfl
    · rw [← b0 t m d f, e]; rfl
    · rw [← fd t m d f, e]; rfl
    · rw [← ff t m d f, e]; rfl
  cases v with
  | default => rfl
  | vlImm d f =>
    have hn : 0#1 ++ d ++ f ++ 0#1 ≠ 0#12 := by
      intro e
      obtain ⟨-, -, hd, hf⟩ := nz _ _ _ _ e
      simp [VLtyp.wf, hd, hf] at h
    simp only [VLtyp.ofCode, VLtyp.code, fd, ff, b0, b11, hn, if_false]
    rfl
  | vlReg d f =>
    have hf : f ≠ 0#5 := by simpa [VLtyp.wf] using h
    have hn : 0#1 ++ d ++ f ++ 1#1 ≠ 0#12 := fun e => absurd (nz _ _ _ _ e).2.1 (by decide)
    simp only [VLtyp.ofCode, VLtyp.code, fd, ff, b0, b11, hn, if_false, hf]
    rfl
  | mvlVl d f =>
    have hn : 1#1 ++ d ++ f ++ 0#1 ≠ 0#12 := fun e => absurd (nz _ _ _ _ e).1 (by decide)
    simp only [VLtyp.ofCode, VLtyp.code, fd, ff, b0, b11, hn, if_false]
    rfl
  | mvl d f =>
    have hn : 1#1 ++ d ++ f ++ 1#1 ≠ 0#12 := fun e => absurd (nz _ _ _ _ e).1 (by decide)
    simp only [VLtyp.ofCode, VLtyp.code, fd, ff, b0, b11, hn, if_false]
    rfl

/-! ### Prefixed words -/

/-- The base word with its two dropped bits restored (R74). -/
theorem restore_base (base : BitVec 32) (h : base.extractLsb' 0 2 = 0b11#2) :
    base.extractLsb' 2 30 ++ 0b11#2 = base := by
  rw [← h]
  exact (extract_join base 0 2 30).trans (extract_whole base)

/-- The embedded base word of a P48 word (R74). -/
theorem pack48_base (base : BitVec 32) (p : BitVec 11) : (pack48 base p).extractLsb' 18 30 = base.extractLsb' 2 30 := by
  simp (disch := omega) only [pack48, extract_append_high, extract_whole, Nat.reduceSub]

/-- Bits 17:7 of a P48 word (R73). -/
theorem pack48_mid (base : BitVec 32) (p : BitVec 11) : (pack48 base p).extractLsb' 7 11 = p := by
  simp (disch := omega) only [pack48, extract_append_high, extract_append_low, extract_whole, Nat.reduceSub]

/-- Bits 6:0 of a P48 word (R70). -/
theorem pack48_low (base : BitVec 32) (p : BitVec 11) : (pack48 base p).extractLsb' 0 7 = 0b0011111#7 := by
  simp (disch := omega) only [pack48, extract_append_low, extract_whole]

/-- The embedded base word of a P64 word (R81). -/
theorem pack64_base (h : BitVec 4) (v : VLtyp) (base : BitVec 32) (p : BitVec 11) :
    (pack64 h v base p).extractLsb' 18 30 = base.extractLsb' 2 30 := by
  simp (disch := omega) only [pack64, extract_append_high, extract_append_low, extract_whole, Nat.reduceSub]

/-- Bits 17:7 of a P64 word (R80). -/
theorem pack64_mid (h : BitVec 4) (v : VLtyp) (base : BitVec 32) (p : BitVec 11) :
    (pack64 h v base p).extractLsb' 7 11 = p := by
  simp (disch := omega) only [pack64, extract_append_high, extract_append_low, extract_whole, Nat.reduceSub]

/-- Bits 63:60 of a P64 word (R82). -/
theorem pack64_high (h : BitVec 4) (v : VLtyp) (base : BitVec 32) (p : BitVec 11) :
    (pack64 h v base p).extractLsb' 60 4 = h := by
  simp (disch := omega) only [pack64, extract_append_high, extract_whole, Nat.reduceSub]

/-- VLtyp of a P64 word (R106). -/
theorem pack64_vltyp (h : BitVec 4) (v : VLtyp) (base : BitVec 32) (p : BitVec 11) :
    (pack64 h v base p).extractLsb' 48 12 = v.code := by
  simp (disch := omega) only [pack64, extract_append_high, extract_append_low, extract_whole, Nat.reduceSub]

/-- Bits 6:0 of a P64 word (R80). -/
theorem pack64_low (h : BitVec 4) (v : VLtyp) (base : BitVec 32) (p : BitVec 11) :
    (pack64 h v base p).extractLsb' 0 7 = 0b0111111#7 := by
  simp (disch := omega) only [pack64, extract_append_low, extract_whole]

/-- The one bit of a flag. -/
theorem ofBool_bit0 (b : Bool) : (BitVec.ofBool b).getLsbD 0 = b := by cases b <;> rfl

/-- The itype of vitp6 (R100). -/
theorem vitp6_ew (e : Ew) (p : Pred) (v : Svlen) : (vitp6 e p v).extractLsb' 4 2 = e.code := by
  cases e <;> cases p <;> cases v <;> rfl

/-- The pred bits of vitp6 (R100). -/
theorem vitp6_pred (e : Ew) (p : Pred) (v : Svlen) : (vitp6 e p v).extractLsb' 2 2 = p.code.extractLsb' 0 2 := by
  cases e <;> cases p <;> cases v <;> rfl

/-- The svlen of vitp6 (R100). -/
theorem vitp6_svlen (e : Ew) (p : Pred) (v : Svlen) : (vitp6 e p v).extractLsb' 0 2 = v.code := by
  cases e <;> cases p <;> cases v <;> rfl

/-- The itype of vitp7 (R101). -/
theorem vitp7Low_ew (e : Ew) (t : TPred) (v : Svlen) : (vitp7Low e t v).extractLsb' 4 2 = e.code := by
  cases e <;> cases t <;> cases v <;> rfl

/-- The low tpred bits of vitp7 (R101). -/
theorem vitp7Low_tpred (e : Ew) (t : TPred) (v : Svlen) :
    (vitp7Low e t v).extractLsb' 2 2 = t.code.extractLsb' 0 2 := by
  cases e <;> cases t <;> cases v <;> rfl

/-- The svlen of vitp7 (R101). -/
theorem vitp7Low_svlen (e : Ew) (t : TPred) (v : Svlen) : (vitp7Low e t v).extractLsb' 0 2 = v.code := by
  cases e <;> cases t <;> cases v <;> rfl

/-- The pred of vtp5 (R99). -/
theorem vtp5_pred (p : Pred) (v : Svlen) : (vtp5 p v).extractLsb' 2 3 = p.code := by
  cases p <;> cases v <;> rfl

/-- The svlen of vtp5 (R99). -/
theorem vtp5_svlen (p : Pred) (v : Svlen) : (vtp5 p v).extractLsb' 0 2 = v.code := by
  cases p <;> cases v <;> rfl

/-! ### Operand records read back from bits 17:7, the base word's fields and bits 63:60 -/

/-- P48-R (R260). -/
theorem rOps48_bits (o : ROps 6) (h : o.pred.fitsVitp6 = true) :
    rOps48 (lo5 o.rd) (lo5 o.rs1) (lo5 o.rs2) o.bits17to7 = .ok o := by
  simp (disch := omega) only [rOps48, vitp6Fields, vitp6_ew, vitp6_pred, vitp6_svlen, ROps.bits17to7, Pred.ofCode_vitp6 _ h, extract_append_high, extract_append_low, extract_whole, Nat.reduceSub,
    Ew.ofCode_code, Svlen.ofCode_code, getLsbD_append_high, getLsbD_append_low,
    ofBool_bit0, join_reg6]

/-- P64-R (R260). -/
theorem rOps64_bits (o : ROps 7) (vd : Bool) (h : o.pred.fitsVitp6 = true) :
    rOps64 (lo5 o.rd) (lo5 o.rs1) (lo5 o.rs2) o.bits17to7 (bit6 o.rd ++ bit6 o.rs1 ++ bit6 o.rs2 ++ BitVec.ofBool vd) = .ok o := by
  simp (disch := omega) only [rOps64, vitp6Fields, vitp6_ew, vitp6_pred, vitp6_svlen, ROps.bits17to7, Pred.ofCode_vitp6 _ h, extract_append_high, extract_append_low, extract_whole, Nat.reduceSub,
    Ew.ofCode_code, Svlen.ofCode_code, getLsbD_append_high, getLsbD_append_low,
    ofBool_bit0, join_reg7]

/-- P48-LD and I (R262, R240). -/
theorem iOps48_bits (o : IOps 6) :
    iOps48 (lo5 o.rd) (lo5 o.rs1) o.bits17to7 = o := by
  simp (disch := omega) only [iOps48, tpredField, vitp7Top, vitp7Low_ew, vitp7Low_tpred, vitp7Low_svlen, IOps.bits17to7, extract_append_high, extract_append_low, extract_whole, Nat.reduceSub,
    Ew.ofCode_code, Svlen.ofCode_code, TPred.ofCode_vitp7, getLsbD_append_high, getLsbD_append_low,
    ofBool_bit0, join_reg6]

/-- P64-LD and I (R262, R240). -/
theorem iOps64_bits (o : IOps 7) :
    iOps64 (lo5 o.rd) (lo5 o.rs1) o.bits17to7 (bit6 o.rd ++ bit6 o.rs1 ++ 0#2) = .ok o := by
  simp (disch := omega) only [iOps64, tpredField, vitp7Top, vitp7Low_ew, vitp7Low_tpred, vitp7Low_svlen, IOps.bits17to7, extract_append_high, extract_append_low, extract_whole, Nat.reduceSub,
    Ew.ofCode_code, Svlen.ofCode_code, TPred.ofCode_vitp7, getLsbD_append_high, getLsbD_append_low,
    ofBool_bit0, join_reg7, if_true]

/-- P48-ST (R240). -/
theorem sOps48_bits (o : SOps 6) :
    sOps48 (lo5 o.rs1) (lo5 o.rs2) o.bits17to7 = o := by
  simp (disch := omega) only [sOps48, tpredField, vitp7Top, vitp7Low_ew, vitp7Low_tpred, vitp7Low_svlen, SOps.bits17to7, extract_append_high, extract_append_low, extract_whole, Nat.reduceSub,
    Ew.ofCode_code, Svlen.ofCode_code, TPred.ofCode_vitp7, getLsbD_append_high, getLsbD_append_low,
    ofBool_bit0, join_reg6]

/-- P64-ST (R240). -/
theorem sOps64_bits (o : SOps 7) :
    sOps64 (lo5 o.rs1) (lo5 o.rs2) o.bits17to7 (0#1 ++ bit6 o.rs1 ++ bit6 o.rs2 ++ 0#1) = .ok o := by
  simp (disch := omega) only [sOps64, tpredField, vitp7Top, vitp7Low_ew, vitp7Low_tpred, vitp7Low_svlen, SOps.bits17to7, extract_append_high, extract_append_low, extract_whole, Nat.reduceSub,
    Ew.ofCode_code, Svlen.ofCode_code, TPred.ofCode_vitp7, getLsbD_append_high, getLsbD_append_low,
    ofBool_bit0, join_reg7, and_self, if_true]

/-- P48-U (R265). -/
theorem uOps48_bits (o : UOps 6) (h : o.pred.fitsVitp6 = true) :
    uOps48 (lo5 o.rd) o.bits17to7 = .ok o := by
  simp (disch := omega) only [uOps48, vitp6Fields, vitp6_ew, vitp6_pred, vitp6_svlen, UOps.bits17to7, Pred.ofCode_vitp6 _ h, extract_append_high, extract_append_low, extract_whole, Nat.reduceSub,
    Ew.ofCode_code, Svlen.ofCode_code, getLsbD_append_high, getLsbD_append_low,
    ofBool_bit0, join_reg6, and_self, if_true]

/-- P64-U (R265). -/
theorem uOps64_bits (o : UOps 7) (h : o.pred.fitsVitp6 = true) :
    uOps64 (lo5 o.rd) o.bits17to7 (bit6 o.rd ++ 0#3) = .ok o := by
  simp (disch := omega) only [uOps64, vitp6Fields, vitp6_ew, vitp6_pred, vitp6_svlen, UOps.bits17to7, Pred.ofCode_vitp6 _ h, extract_append_high, extract_append_low, extract_whole, Nat.reduceSub,
    Ew.ofCode_code, Svlen.ofCode_code, getLsbD_append_high, getLsbD_append_low,
    ofBool_bit0, join_reg7, and_self, if_true]

/-- P48-FR (R282). -/
theorem frOps48_bits (o : FROps 6) :
    frOps48 o.base o.bits17to7 = .ok o := by
  simp (disch := omega) only [frOps48, vtp5_pred, vtp5_svlen, FROps.bits17to7, FROps.base, encR, Pred.ofCode_code,
    extract_append_high, extract_append_low, extract_whole, Nat.reduceSub,
    Svlen.ofCode_code, getLsbD_append_high, getLsbD_append_low,
    ofBool_bit0, join_reg6, if_true]

/-- P64-FR (R282). -/
theorem frOps64_bits (o : FROps 7) (vd : Bool) :
    frOps64 o.base o.bits17to7 (bit6 o.rd ++ bit6 o.rs1 ++ bit6 o.rs2 ++ BitVec.ofBool vd) = .ok o := by
  simp (disch := omega) only [frOps64, vtp5_pred, vtp5_svlen, FROps.bits17to7, FROps.base, encR, Pred.ofCode_code,
    extract_append_high, extract_append_low, extract_whole, Nat.reduceSub,
    Svlen.ofCode_code, getLsbD_append_high, getLsbD_append_low,
    ofBool_bit0, join_reg7, if_true]

/-- P48-FR4 (R288). -/
theorem fr4Ops48_bits (o : FR4Ops 6) (op : BitVec 7) :
    fr4Ops48 (o.base op) o.bits17to7 = .ok o := by
  simp (disch := omega) only [fr4Ops48, vtp5_pred, vtp5_svlen, FR4Ops.bits17to7, FR4Ops.base, encR, Pred.ofCode_code,
    extract_append_high, extract_append_low, extract_whole, Nat.reduceSub,
    Svlen.ofCode_code, getLsbD_append_high, getLsbD_append_low,
    ofBool_bit0, join_reg6]

/-- P64-FR4 (R288). -/
theorem fr4Ops64_bits (o : FR4Ops 7) (op : BitVec 7) :
    fr4Ops64 (o.base op) o.bits17to7 (bit6 o.rd ++ bit6 o.rs1 ++ bit6 o.rs2 ++ bit6 o.rs3) = .ok o := by
  simp (disch := omega) only [fr4Ops64, vtp5_pred, vtp5_svlen, FR4Ops.bits17to7, FR4Ops.base, encR, Pred.ofCode_code,
    extract_append_high, extract_append_low, extract_whole, Nat.reduceSub,
    Svlen.ofCode_code, getLsbD_append_high, getLsbD_append_low,
    ofBool_bit0, join_reg7]

/-- What `decode48` answers for a packed base word (R74, R108). -/
theorem decode48_pack (base : BitVec 32) (p : BitVec 11) (h : base.extractLsb' 0 2 = 0b11#2) :
    decode48 (pack48 base p) =
    match (base.extractLsb' 2 5).toNat with
    | 0b00001 =>
      .ok (.p48LoadFp (iOps48 (base.extractLsb' 7 5) (base.extractLsb' 15 5) p) (base.extractLsb' 12 3)
        (base.extractLsb' 20 12))
    | 0b01001 =>
      .ok (.p48StoreFp (sOps48 (base.extractLsb' 15 5) (base.extractLsb' 20 5) p) (base.extractLsb' 12 3)
        (base.extractLsb' 25 7 ++ base.extractLsb' 7 5))
    | 0b10100 => attach (frOps48 base p) (fun o => .p48OpFp o)
    | 0b10000 => attach (fr4Ops48 base p) (fun o => .p48Madd o)
    | 0b10001 => attach (fr4Ops48 base p) (fun o => .p48Msub o)
    | 0b10010 => attach (fr4Ops48 base p) (fun o => .p48Nmsub o)
    | 0b10011 => attach (fr4Ops48 base p) (fun o => .p48Nmadd o)
    | _ =>
      match decode32 base with
      | .error e => .error e
      | .ok b => attach48 b p := by
  unfold decode48
  have h1 : (pack48 base p).extractLsb' 0 6 = 0b011111#6 := by
    rw [show (pack48 base p).extractLsb' 0 6 = ((pack48 base p).extractLsb' 0 7).extractLsb' 0 6 from (extract_extract _ 0 7 0 6 (by omega)).symm, pack48_low]; rfl
  have h2 : (pack48 base p).getLsbD 6 = false := by
    unfold pack48; rw [getLsbD_append_low _ _ _ (by omega)]; rfl
  have h3 : (pack48 base p).extractLsb' 18 5 = base.extractLsb' 2 5 := by
    rw [show (pack48 base p).extractLsb' 18 5 = ((pack48 base p).extractLsb' 18 30).extractLsb' 0 5 from (extract_extract _ 18 30 0 5 (by omega)).symm, pack48_base, extract_extract _ _ _ _ _ (by omega)]
  simp only [h1, h2, h3, pack48_base, pack48_mid, restore_base base h]
  rfl

/-- What `decode64` answers for a packed base word, VLtyp and prefix bits (R74, R82, R106). -/
theorem decode64_pack (h : BitVec 4) (v : VLtyp) (hv : v.wf = true) (base : BitVec 32) (p : BitVec 11) (hb : base.extractLsb' 0 2 = 0b11#2) :
    decode64 (pack64 h v base p) =
    match (base.extractLsb' 2 5).toNat with
    | 0b00001 =>
        attach (iOps64 (base.extractLsb' 7 5) (base.extractLsb' 15 5) p h)
          (fun o => .p64LoadFp o (base.extractLsb' 12 3) (base.extractLsb' 20 12) v)
    | 0b01001 =>
        attach (sOps64 (base.extractLsb' 15 5) (base.extractLsb' 20 5) p h)
          (fun o => .p64StoreFp o (base.extractLsb' 12 3) (base.extractLsb' 25 7 ++ base.extractLsb' 7 5) v)
    | 0b10100 => attach (frOps64 base p h) (fun o => .p64OpFp o (h.getLsbD 0) v)
    | 0b10000 => attach (fr4Ops64 base p h) (fun o => .p64Madd o v)
    | 0b10001 => attach (fr4Ops64 base p h) (fun o => .p64Msub o v)
    | 0b10010 => attach (fr4Ops64 base p h) (fun o => .p64Nmsub o v)
    | 0b10011 => attach (fr4Ops64 base p h) (fun o => .p64Nmadd o v)
    | _ =>
      match decode32 base with
      | .error e => .error e
      | .ok b => attach64 b p h v.code := by
  unfold decode64
  have h3 : (pack64 h v base p).extractLsb' 18 5 = base.extractLsb' 2 5 := by
    rw [show (pack64 h v base p).extractLsb' 18 5 = ((pack64 h v base p).extractLsb' 18 30).extractLsb' 0 5 from (extract_extract _ 18 30 0 5 (by omega)).symm, pack64_base, extract_extract _ _ _ _ _ (by omega)]
  simp only [pack64_low, h3, pack64_base, pack64_mid, pack64_high, pack64_vltyp, restore_base base hb, VLtyp.ofCode_code v hv]
  rfl

end Sys2Proof
end

