-- ==== Sys2Proof/Laws/Fetch.lean ====
section
/-!
SUPPORT. Everything the fetch of one parcel can answer (10_state.md R26, 20_memory.md R50, R62, 60_exceptions.md
R342), and what a word that decodes to no `Instr` does (R341, 40_base_scalar.md R193).
-/

namespace Sys2Proof.Machine

/-- A parcel below the top of the address space whose two bytes are backed, not stored to and hold a value is
read. -/
theorem fetchParcel_placed {s : State} {a : Nat} {lo hi : Byte} (h : a + 1 < 2 ^ 64)
    (b0 : backed s.platform a = true) (b1 : backed s.platform (a + 1) = true) (n0 : a ∉ s.stored)
    (n1 : a + 1 ∉ s.stored) (r0 : Memory.read s.mem a = some lo) (r1 : Memory.read s.mem (a + 1) = some hi) :
    fetchParcel s a = .ok (parcelOf lo hi) := by
  unfold fetchParcel
  rw [if_neg (by omega), if_neg (by simp [b0, b1]), if_neg (by simpa using n0), if_neg (by simpa using n1), r0, r1]

/-- A parcel that is read is below the top of the address space, backed, not stored to, and its bytes hold the
values it joins. -/
theorem fetchParcel_ok {s : State} {a : Nat} {p : BitVec 16} (h : fetchParcel s a = .ok p) :
    a + 1 < 2 ^ 64 ∧ backed s.platform a = true ∧ backed s.platform (a + 1) = true ∧ a ∉ s.stored ∧
      a + 1 ∉ s.stored ∧ ∃ lo hi, Memory.read s.mem a = some lo ∧ Memory.read s.mem (a + 1) = some hi ∧
        p = parcelOf lo hi := by
  unfold fetchParcel at h
  split at h
  · cases h
  split at h
  · cases h
  split at h
  · cases h
  split at h
  · cases h
  rename_i h1 h2 h3 h4
  split at h
  · cases h
  · cases h
  rename_i lo hi e0 e1
  cases h
  have hb : backed s.platform a = true ∧ backed s.platform (a + 1) = true := by
    revert h2; cases backed s.platform a <;> cases backed s.platform (a + 1) <;> simp
  exact ⟨by omega, hb.1, hb.2, by simpa using h3, by simpa using h4, lo, hi, e0, e1, rfl⟩

/-- A parcel outside `MemMap` and below the top of the address space raises InstructionAccessFault at its
address, whatever else holds of it. -/
theorem fetchParcel_unbacked {s : State} {a : Nat} (h : a + 1 < 2 ^ 64)
    (hb : backed s.platform a = false ∨ backed s.platform (a + 1) = false) :
    fetchParcel s a = .error (.next (s.takeTrap .instructionAccessFault (BitVec.ofNat 64 a))) := by
  unfold fetchParcel
  rw [if_neg (by omega), if_pos]
  rcases hb with hb | hb <;> simp [hb]

/-- A parcel that runs past the top of the address space is refused, whatever else holds of it. -/
theorem fetchParcel_wraps {s : State} {a : Nat} (h : 2 ^ 64 ≤ a + 1) :
    fetchParcel s a = .error (.refused .fetchWraps) := by
  unfold fetchParcel
  rw [if_pos h]

/-- Without `HAS_F` an unprefixed floating-point word raises IllegalInstruction and changes nothing else. -/
theorem execUnprefixedFloat_withoutF {s : State} (h : s.platform.hasF = false) (w : BitVec 32) :
    execUnprefixedFloat w s = illegal (w.setWidth 64) s := by
  unfold execUnprefixedFloat
  split <;> try rfl
  · unfold execLoadFp runLoadFp
    split
    · rfl
    · simp [runPrefixed, fpMemLegal, h, form32]
  · unfold execStoreFp runStoreFp
    split
    · rfl
    · simp [runPrefixed, fpMemLegal, h, form32]
  · simp [execFusedMul, runFusedMul, runPrefixed, h, form32]
  · simp [execFusedMul, runFusedMul, runPrefixed, h, form32]
  · simp [execFusedMul, runFusedMul, runPrefixed, h, form32]
  · simp [execFusedMul, runFusedMul, runPrefixed, h, form32]
  · unfold execOpFp runOpFp
    split
    · rfl
    · simp [runPrefixed, h, form32]

/-- Any other word that decodes to no `Instr`, and every one without `HAS_F`, raises IllegalInstruction. -/
theorem undecodable_illegal {s : State} {e : DecodeError} (h : s.platform.hasF = false ∨ e ≠ .floatBase)
    (w : InstrWord) : undecodable w e s = illegal w.toWord s := by
  cases e <;> try rfl
  rcases h with h | h
  · cases w with
    | w32 v => exact execUnprefixedFloat_withoutF h v
    | w48 v => rfl
    | w64 v => rfl
  · exact absurd rfl h

end Sys2Proof.Machine
end

