-- ==== Sys2Proof/Laws/Step.lean ====
section
/-!
SUPPORT. What a step does with a 32-bit word of a floating-point opcode (40_base_scalar.md R193).
-/

namespace Sys2Proof.Machine

/-- The decoder answers `floatBase` for every 32-bit word with a floating-point opcode. -/
theorem decode_floatBase {w : BitVec 32} (h : w.extractLsb' 0 7 ∈ [0b0000111#7, 0b0100111#7, 0b1000011#7,
    0b1000111#7, 0b1001011#7, 0b1001111#7, 0b1010011#7]) : decode (.w32 w) = .error .floatBase := by
  simp only [List.mem_cons, List.not_mem_nil, or_false] at h
  rcases h with h | h | h | h | h | h | h <;> simp [decode, decode32, h]

/-- A step on such a word runs its meaning. -/
theorem step_unprefixedFloat {s : State} {w : BitVec 32} (ht : s.trap = none) (hp : s.pc.getLsbD 0 = false)
    (hf : fetch s = .ok (.w32 w)) (hd : decode (.w32 w) = .error .floatBase) :
    step s = execUnprefixedFloat w s := by
  unfold step
  rw [ht, hf]
  simp only [hp, hd, undecodable, Bool.false_eq_true, if_false]

end Sys2Proof.Machine
end

