-- ==== Sys2Proof/Tests/Slice0.lean ====
section
/-!
SUPPORT. Tests of the model, each a named theorem: what `WellFormed` refuses, the decoding of a word of every row
of spec/opcode_table.json, single steps whose words, start states and end states are vectors of
95_test_vectors.md and 96_test_vectors_prefixed.md, and for every statement with hypotheses a state and
operands that meet them.
-/

namespace Sys2Proof.Tests

open Sys2Proof Sys2Proof.Machine

/-- A result is a next state with a property. -/
def nextWith (r : Result) (p : State → Bool) : Bool :=
  match r with
  | .next t => p t
  | .fault _ => false
  | .refused _ => false

/-- The reset state with registers set and bytes placed in memory. -/
def start (svp : BitVec 32) (regs mem : List (Nat × Nat)) : State :=
  { regs.foldl (fun s p => s.setX (BitVec.ofNat 7 p.1) (BitVec.ofNat 64 p.2)) (State.reset.withSvpstate svp) with
    mem := mem.foldl (fun m p => Memory.write m p.1 (BitVec.ofNat 8 p.2)) [] }

/-- One step on a word placed at the pc. -/
def run (nbits w svp : Nat) (regs mem : List (Nat × Nat)) : Result :=
  step ((start (BitVec.ofNat 32 svp) regs mem).withFetchWord nbits w)

/-- The end state of a vector: pc, SVPSTATE, the registers and bytes it lists, the trap record. -/
def ends (r : Result) (pc svp : Nat) (regs mem : List (Nat × Nat)) (trap : Option TrapRecord) : Bool :=
  nextWith r fun t =>
    t.pc == BitVec.ofNat 64 pc && t.svpstate == BitVec.ofNat 32 svp && t.trap == trap && t.wf &&
      regs.all (fun p => t.getX (BitVec.ofNat 7 p.1) == BitVec.ofNat 64 p.2) &&
      mem.all (fun p => Memory.read t.mem p.1 == some (BitVec.ofNat 8 p.2))

/-! ### What WellFormed refuses -/

/-- x10 and x11 do not fit a vitp6 field (R100). -/
theorem test_wf_pred_r48 :
    Instr.wf (.p48Add ⟨1#6, 2#6, 3#6, false, false, .e64, .x10, .subvl⟩) = false := by decide
theorem test_wf_pred_u48 : Instr.wf (.p48Lui ⟨1#6, false, .e64, .notX11, .subvl⟩ 1#20) = false := by decide
theorem test_wf_pred_r64 :
    Instr.wf (.p64Add ⟨1#7, 2#7, 3#7, false, false, .e64, .notX10, .subvl⟩ false .default) = false := by decide
theorem test_wf_pred_u64 : Instr.wf (.p64Lui ⟨1#7, false, .e64, .x11, .subvl⟩ 1#20 .default) = false := by decide

/-- A VLtyp value of 0x000 is the default row (R304), and x0 is no source of VL (R306). -/
theorem test_wf_vltyp_zero :
    Instr.wf (.p64Addi ⟨1#7, 2#7, false, false, .e64, .none, .subvl⟩ 1#12 (.vlImm 0#5 0#5)) = false := by decide
theorem test_wf_vltyp_x0 :
    Instr.wf (.p64Addi ⟨1#7, 2#7, false, false, .e64, .none, .subvl⟩ 1#12 (.vlReg 3#5 0#5)) = false := by decide
theorem test_wf_vltyp_u64 : Instr.wf (.p64Lui ⟨1#7, false, .e64, .none, .subvl⟩ 1#20 (.vlReg 3#5 0#5)) = false := by
  decide

/-- A jump or branch offset is even (R131). -/
theorem test_wf_jal_odd : Instr.wf (.jal 1#5 5#21) = false := by decide
theorem test_wf_beq_odd : Instr.wf (.beq 1#5 2#5 7#13) = false := by decide

/-- Words that decode to no instruction (R341). -/
theorem test_decode_reserved_pred : decode (.w48 0x00000030021F#48) = .error .reservedPred := by decide
theorem test_decode_vltyp_x0 : (decode (.w64 0x004100008090003F#64)).toOption = none := by decide

/-! ### Decoding, a word of every row of the opcode table, its fields placed where the row says -/

theorem test_decode_lui : decode (.w32 0xB9097EB7#32) = .ok (.lui 29#5 757911#20) := by decide
theorem test_decode_auipc : decode (.w32 0xC963DB17#32) = .ok (.auipc 22#5 824893#20) := by decide
theorem test_decode_addi : decode (.w32 0xE7AE8C93#32) = .ok (.addi 25#5 29#5 3706#12) := by decide
theorem test_decode_slti : decode (.w32 0xAC94A293#32) = .ok (.slti 5#5 9#5 2761#12) := by decide
theorem test_decode_sltiu : decode (.w32 0xE7BE3A93#32) = .ok (.sltiu 21#5 28#5 3707#12) := by decide
theorem test_decode_xori : decode (.w32 0x53EE4213#32) = .ok (.xori 4#5 28#5 1342#12) := by decide
theorem test_decode_ori : decode (.w32 0x2B6EE993#32) = .ok (.ori 19#5 29#5 694#12) := by decide
theorem test_decode_andi : decode (.w32 0x68377093#32) = .ok (.andi 1#5 14#5 1667#12) := by decide
theorem test_decode_slli : decode (.w32 0x00921193#32) = .ok (.slli 3#5 4#5 9#6) := by decide
theorem test_decode_srli : decode (.w32 0x03D85593#32) = .ok (.srli 11#5 16#5 61#6) := by decide
theorem test_decode_srai : decode (.w32 0x41B7D993#32) = .ok (.srai 19#5 15#5 27#6) := by decide
theorem test_decode_addiw : decode (.w32 0x5133839B#32) = .ok (.addiw 7#5 7#5 1299#12) := by decide
theorem test_decode_slliw : decode (.w32 0x016F1A9B#32) = .ok (.slliw 21#5 30#5 22#5) := by decide
theorem test_decode_srliw : decode (.w32 0x00E5D59B#32) = .ok (.srliw 11#5 11#5 14#5) := by decide
theorem test_decode_sraiw : decode (.w32 0x411AD19B#32) = .ok (.sraiw 3#5 21#5 17#5) := by decide
theorem test_decode_add : decode (.w32 0x010D8D33#32) = .ok (.add 26#5 27#5 16#5) := by decide
theorem test_decode_sub : decode (.w32 0x407186B3#32) = .ok (.sub 13#5 3#5 7#5) := by decide
theorem test_decode_sll : decode (.w32 0x002419B3#32) = .ok (.sll 19#5 8#5 2#5) := by decide
theorem test_decode_slt : decode (.w32 0x003223B3#32) = .ok (.slt 7#5 4#5 3#5) := by decide
theorem test_decode_sltu : decode (.w32 0x0174B3B3#32) = .ok (.sltu 7#5 9#5 23#5) := by decide
theorem test_decode_xor : decode (.w32 0x00A54CB3#32) = .ok (.xor 25#5 10#5 10#5) := by decide
theorem test_decode_srl : decode (.w32 0x0064DBB3#32) = .ok (.srl 23#5 9#5 6#5) := by decide
theorem test_decode_sra : decode (.w32 0x41D25A33#32) = .ok (.sra 20#5 4#5 29#5) := by decide
theorem test_decode_or : decode (.w32 0x0174E0B3#32) = .ok (.or 1#5 9#5 23#5) := by decide
theorem test_decode_and : decode (.w32 0x01BE7433#32) = .ok (.and 8#5 28#5 27#5) := by decide
theorem test_decode_addw : decode (.w32 0x0089843B#32) = .ok (.addw 8#5 19#5 8#5) := by decide
theorem test_decode_subw : decode (.w32 0x41A0813B#32) = .ok (.subw 2#5 1#5 26#5) := by decide
theorem test_decode_sllw : decode (.w32 0x00AA1ABB#32) = .ok (.sllw 21#5 20#5 10#5) := by decide
theorem test_decode_srlw : decode (.w32 0x0172D4BB#32) = .ok (.srlw 9#5 5#5 23#5) := by decide
theorem test_decode_sraw : decode (.w32 0x4145DABB#32) = .ok (.sraw 21#5 11#5 20#5) := by decide
theorem test_decode_lb : decode (.w32 0xE8278C03#32) = .ok (.lb 24#5 15#5 3714#12) := by decide
theorem test_decode_lh : decode (.w32 0xA38F1283#32) = .ok (.lh 5#5 30#5 2616#12) := by decide
theorem test_decode_lw : decode (.w32 0xD5492483#32) = .ok (.lw 9#5 18#5 3412#12) := by decide
theorem test_decode_ld : decode (.w32 0x2A333703#32) = .ok (.ld 14#5 6#5 675#12) := by decide
theorem test_decode_lbu : decode (.w32 0xB4FF4683#32) = .ok (.lbu 13#5 30#5 2895#12) := by decide
theorem test_decode_lhu : decode (.w32 0xB0A25E03#32) = .ok (.lhu 28#5 4#5 2826#12) := by decide
theorem test_decode_lwu : decode (.w32 0x94ACE283#32) = .ok (.lwu 5#5 25#5 2378#12) := by decide
theorem test_decode_sb : decode (.w32 0x38C70B23#32) = .ok (.sb 14#5 12#5 918#12) := by decide
theorem test_decode_sh : decode (.w32 0x9BE21D23#32) = .ok (.sh 4#5 30#5 2490#12) := by decide
theorem test_decode_sw : decode (.w32 0x31112CA3#32) = .ok (.sw 2#5 17#5 793#12) := by decide
theorem test_decode_sd : decode (.w32 0xFE673123#32) = .ok (.sd 14#5 6#5 4066#12) := by decide
theorem test_decode_jal : decode (.w32 0xD0DAD36F#32) = .ok (.jal 6#5 1760524#21) := by decide
theorem test_decode_jalr : decode (.w32 0xC8C201E7#32) = .ok (.jalr 3#5 4#5 3212#12) := by decide
theorem test_decode_beq : decode (.w32 0x00AE8963#32) = .ok (.beq 29#5 10#5 18#13) := by decide
theorem test_decode_bne : decode (.w32 0x995D17E3#32) = .ok (.bne 26#5 21#5 6542#13) := by decide
theorem test_decode_blt : decode (.w32 0xF565CE63#32) = .ok (.blt 11#5 22#5 5980#13) := by decide
theorem test_decode_bge : decode (.w32 0x6BF6D2E3#32) = .ok (.bge 13#5 31#5 3748#13) := by decide
theorem test_decode_bltu : decode (.w32 0x8798E5E3#32) = .ok (.bltu 17#5 25#5 6250#13) := by decide
theorem test_decode_bgeu : decode (.w32 0xAC2C70E3#32) = .ok (.bgeu 24#5 2#5 6848#13) := by decide
theorem test_decode_fence : decode (.w32 0x1E230B0F#32) = .ok (.fence 22#5 6#5 482#12) := by decide
theorem test_decode_ecall : decode (.w32 0x00000073#32) = .ok (.ecall) := by decide
theorem test_decode_ebreak : decode (.w32 0x00100073#32) = .ok (.ebreak) := by decide
theorem test_decode_csrrw : decode (.w32 0x8EB79FF3#32) = .ok (.csrrw 31#5 15#5 2283#12) := by decide
theorem test_decode_csrrs : decode (.w32 0x12C0A5F3#32) = .ok (.csrrs 11#5 1#5 300#12) := by decide
theorem test_decode_csrrc : decode (.w32 0x1BDC39F3#32) = .ok (.csrrc 19#5 24#5 445#12) := by decide
theorem test_decode_csrrwi : decode (.w32 0x41E5D1F3#32) = .ok (.csrrwi 3#5 11#5 1054#12) := by decide
theorem test_decode_csrrsi : decode (.w32 0xF4D1EAF3#32) = .ok (.csrrsi 21#5 3#5 3917#12) := by decide
theorem test_decode_csrrci : decode (.w32 0x4D1CFB73#32) = .ok (.csrrci 22#5 25#5 1233#12) := by decide
theorem test_decode_p48_lui : decode (.w48 0x81B330B6001F#48) = .ok (.p48Lui ⟨33#6, false, .e64, .none, .subvl⟩ 531251#20) := by decide
theorem test_decode_p48_auipc : decode (.w48 0x4FE56D160E1F#48) = .ok (.p48Auipc ⟨58#6, false, .e8, .x9, .subvl⟩ 327254#20) := by decide
theorem test_decode_p48_addi : decode (.w48 0xDC0703909D1F#48) = .ok (.p48Addi ⟨7#6, 14#6, false, false, .e32, .offNotX10, .three⟩ 3520#12) := by decide
theorem test_decode_p48_slti : decode (.w48 0x72ECA2120C1F#48) = .ok (.p48Slti ⟨36#6, 25#6, false, false, .e8, .offX10, .subvl⟩ 1838#12) := by decide
theorem test_decode_p48_sltiu : decode (.w48 0xF144BA937E1F#48) = .ok (.p48Sltiu ⟨53#6, 41#6, true, true, .e32, .x9X10, .subvl⟩ 3860#12) := by decide
theorem test_decode_p48_xori : decode (.w48 0x014A4412831F#48) = .ok (.p48Xori ⟨40#6, 20#6, false, false, .e64, .notX9Off, .three⟩ 20#12) := by decide
theorem test_decode_p48_ori : decode (.w48 0xFAFFE813F21F#48) = .ok (.p48Ori ⟨48#6, 63#6, true, true, .e16, .notX9Off, .subvl⟩ 4015#12) := by decide
theorem test_decode_p48_andi : decode (.w48 0xEC3F77119E1F#48) = .ok (.p48Andi ⟨14#6, 62#6, false, false, .e32, .notX9NotX10, .subvl⟩ 3779#12) := by decide
theorem test_decode_p48_slli : decode (.w48 0x03F39991901F#48) = .ok (.p48Slli ⟨19#6, 39#6, false, false, .e16, .tbd, .subvl⟩ 63#6) := by decide
theorem test_decode_p48_srli : decode (.w48 0x026ED413469F#48) = .ok (.p48Srli ⟨40#6, 61#6, true, false, .e64, .x9X10, .two⟩ 38#6) := by decide
theorem test_decode_p48_srai : decode (.w48 0x43A55A13311F#48) = .ok (.p48Srai ⟨52#6, 42#6, false, true, .e16, .none, .three⟩ 58#6) := by decide
theorem test_decode_p48_addiw : decode (.w48 0x95090A1B599F#48) = .ok (.p48Addiw ⟨52#6, 50#6, true, false, .e32, .none, .four⟩ 2384#12) := by decide
theorem test_decode_p48_slliw : decode (.w48 0x007E99987F1F#48) = .ok (.p48Slliw ⟨19#6, 29#6, true, true, .e32, .x9X10, .three⟩ 7#5) := by decide
theorem test_decode_p48_srliw : decode (.w48 0x019AD81B431F#48) = .ok (.p48Srliw ⟨48#6, 53#6, true, false, .e64, .x9Off, .three⟩ 25#5) := by decide
theorem test_decode_p48_sraiw : decode (.w48 0x41695999059F#48) = .ok (.p48Sraiw ⟨19#6, 50#6, false, false, .e64, .offX10, .four⟩ 22#5) := by decide
theorem test_decode_p48_add : decode (.w48 0x01C78130371F#48) = .ok (.p48Add ⟨2#6, 15#6, 28#6, true, false, .e16, .x9, .three⟩) := by decide
theorem test_decode_p48_sub : decode (.w48 0x40A380B3BF9F#48) = .ok (.p48Sub ⟨33#6, 39#6, 42#6, true, false, .e32, .x9, .four⟩) := by decide
theorem test_decode_p48_sll : decode (.w48 0x01059F31DD1F#48) = .ok (.p48Sll ⟨30#6, 43#6, 48#6, false, true, .e32, .notX9, .three⟩) := by decide
theorem test_decode_p48_slt : decode (.w48 0x00D824B3CD1F#48) = .ok (.p48Slt ⟨41#6, 48#6, 45#6, false, true, .e8, .notX9, .three⟩) := by decide
theorem test_decode_p48_sltu : decode (.w48 0x0011B731E49F#48) = .ok (.p48Sltu ⟨14#6, 35#6, 33#6, true, true, .e64, .notX9, .two⟩) := by decide
theorem test_decode_p48_xor : decode (.w48 0x00514CB2889F#48) = .ok (.p48Xor ⟨57#6, 2#6, 37#6, false, false, .e8, .none, .two⟩) := by decide
theorem test_decode_p48_srl : decode (.w48 0x01155330311F#48) = .ok (.p48Srl ⟨6#6, 10#6, 17#6, true, false, .e16, .none, .three⟩) := by decide
theorem test_decode_p48_sra : decode (.w48 0x4030D1B1691F#48) = .ok (.p48Sra ⟨3#6, 33#6, 3#6, true, true, .e8, .none, .three⟩) := by decide
theorem test_decode_p48_or : decode (.w48 0x01476AB33E1F#48) = .ok (.p48Or ⟨53#6, 46#6, 20#6, true, false, .e32, .x9, .subvl⟩) := by decide
theorem test_decode_p48_and : decode (.w48 0x00C57B321F9F#48) = .ok (.p48And ⟨54#6, 10#6, 12#6, false, false, .e32, .x9, .four⟩) := by decide
theorem test_decode_p48_addw : decode (.w48 0x005F0D38301F#48) = .ok (.p48Addw ⟨26#6, 30#6, 5#6, true, false, .e16, .none, .subvl⟩) := by decide
theorem test_decode_p48_subw : decode (.w48 0x40170C3AEE9F#48) = .ok (.p48Subw ⟨56#6, 14#6, 33#6, true, true, .e8, .x9, .two⟩) := by decide
theorem test_decode_p48_sllw : decode (.w48 0x01FA183BDC1F#48) = .ok (.p48Sllw ⟨48#6, 52#6, 63#6, false, true, .e32, .notX9, .subvl⟩) := by decide
theorem test_decode_p48_srlw : decode (.w48 0x00ACDA3A309F#48) = .ok (.p48Srlw ⟨52#6, 25#6, 10#6, true, false, .e16, .none, .two⟩) := by decide
theorem test_decode_p48_sraw : decode (.w48 0x412C5439269F#48) = .ok (.p48Sraw ⟨8#6, 56#6, 18#6, true, false, .e64, .x9, .two⟩) := by decide
theorem test_decode_p48_lb : decode (.w48 0xD4E70E038D9F#48) = .ok (.p48Lb ⟨60#6, 46#6, false, false, .e8, .offNotX10, .four⟩ 3406#12) := by decide
theorem test_decode_p48_lh : decode (.w48 0x1E181580C81F#48) = .ok (.p48Lh ⟨11#6, 16#6, true, false, .e8, .tbd, .subvl⟩ 481#12) := by decide
theorem test_decode_p48_lw : decode (.w48 0x73982982839F#48) = .ok (.p48Lw ⟨51#6, 16#6, false, false, .e64, .notX9Off, .four⟩ 1849#12) := by decide
theorem test_decode_p48_ld : decode (.w48 0xEF38BD02601F#48) = .ok (.p48Ld ⟨58#6, 17#6, true, true, .e64, .none, .subvl⟩ 3827#12) := by decide
theorem test_decode_p48_lbu : decode (.w48 0x0FDC4603539F#48) = .ok (.p48Lbu ⟨44#6, 56#6, true, false, .e16, .x9Off, .four⟩ 253#12) := by decide
theorem test_decode_p48_lhu : decode (.w48 0x004ED7824A9F#48) = .ok (.p48Lhu ⟨47#6, 29#6, true, false, .e8, .x9Off, .two⟩ 4#12) := by decide
theorem test_decode_p48_lwu : decode (.w48 0x5429E300EF9F#48) = .ok (.p48Lwu ⟨6#6, 19#6, true, true, .e8, .notX9NotX10, .four⟩ 1346#12) := by decide
theorem test_decode_p48_sb : decode (.w48 0xDA940EA1859F#48) = .ok (.p48Sb ⟨40#6, 41#6, false, false, .e64, .offX10, .four⟩ 3517#12) := by decide
theorem test_decode_p48_sh : decode (.w48 0x1EF61EA0369F#48) = .ok (.p48Sh ⟨12#6, 15#6, true, false, .e16, .x9X10, .two⟩ 509#12) := by decide
theorem test_decode_p48_sw : decode (.w48 0x5125ACA3249F#48) = .ok (.p48Sw ⟨43#6, 18#6, true, false, .e64, .offNotX10, .two⟩ 1305#12) := by decide
theorem test_decode_p48_sd : decode (.w48 0x8D5632A2861F#48) = .ok (.p48Sd ⟨12#6, 53#6, false, false, .e64, .notX9NotX10, .subvl⟩ 2245#12) := by decide
theorem test_decode_p64_lui : decode (.w64 0x8FFD19B3633610BF#64) = .ok (.p64Lui ⟨102#7, false, .e16, .none, .two⟩ 105270#20 (.mvl 31#5 30#5)) := by decide
theorem test_decode_p64_auipc : decode (.w64 0x0963279CE81411BF#64) = .ok (.p64Auipc ⟨16#7, false, .e16, .none, .four⟩ 162254#20 (.mvl 5#5 17#5)) := by decide
theorem test_decode_p64_addi : decode (.w64 0x4695007E0112313F#64) = .ok (.p64Addi ⟨34#7, 92#7, false, true, .e16, .none, .three⟩ 7#12 (.vlReg 26#5 10#5)) := by decide
theorem test_decode_p64_slti : decode (.w64 0x4F15053FA21119BF#64) = .ok (.p64Slti ⟨4#7, 127#7, false, false, .e32, .none, .four⟩ 83#12 (.mvl 28#5 10#5)) := by decide
theorem test_decode_p64_sltiu : decode (.w64 0x4E420654B591D93F#64) = .ok (.p64Sltiu ⟨11#7, 105#7, true, false, .e32, .tbd, .three⟩ 101#12 (.mvlVl 25#5 1#5)) := by decide
theorem test_decode_p64_xori : decode (.w64 0xC000B82DCB91323F#64) = .ok (.p64Xori ⟨87#7, 123#7, false, true, .e16, .x9Off, .subvl⟩ 2946#12 .default) := by decide
theorem test_decode_p64_ori : decode (.w64 0x8A1FE0C16F10013F#64) = .ok (.p64Ori ⟨94#7, 2#7, false, false, .e64, .none, .three⟩ 3596#12 (.mvl 8#5 15#5)) := by decide
theorem test_decode_p64_andi : decode (.w64 0xC4DF3ED1FD900B3F#64) = .ok (.p64Andi ⟨91#7, 67#7, false, false, .e8, .x9Off, .three⟩ 1005#12 (.vlReg 19#5 15#5)) := by decide
theorem test_decode_p64_slli : decode (.w64 0xC4E200C7941359BF#64) = .ok (.p64Slli ⟨104#7, 111#7, true, false, .e32, .none, .four⟩ 12#6 (.vlImm 19#5 17#5)) := by decide
theorem test_decode_p64_srli : decode (.w64 0x0EF103E352922EBF#64) = .ok (.p64Srli ⟨37#7, 6#7, false, true, .e8, .x9X10, .two⟩ 62#6 (.mvl 27#5 24#5)) := by decide
theorem test_decode_p64_srai : decode (.w64 0x4714418B5091DF3F#64) = .ok (.p64Srai ⟨1#7, 118#7, true, false, .e32, .notX9NotX10, .three⟩ 24#6 (.vlImm 28#5 10#5)) := by decide
theorem test_decode_p64_addiw : decode (.w64 0x0000A15B809A0EBF#64) = .ok (.p64Addiw ⟨33#7, 23#7, false, false, .e8, .x9X10, .two⟩ 2581#12 .default) := by decide
theorem test_decode_p64_slliw : decode (.w64 0x42B401FF9F19B9BF#64) = .ok (.p64Slliw ⟨30#7, 127#7, false, true, .e32, .tbd, .four⟩ 31#5 (.vlImm 10#5 26#5)) := by decide
theorem test_decode_p64_srliw : decode (.w64 0x07F0007BDF9B933F#64) = .ok (.p64Srliw ⟨63#7, 55#7, false, false, .e16, .notX9Off, .three⟩ 7#5 (.vlImm 31#5 24#5)) := by decide
theorem test_decode_p64_sraiw : decode (.w64 0x040E401DDA19DBBF#64) = .ok (.p64Sraiw ⟨20#7, 59#7, true, false, .e32, .notX9Off, .four⟩ 1#5 (.vlImm 16#5 7#5)) := by decide
theorem test_decode_p64_add : decode (.w64 0x2000002700B027BF#64) = .ok (.p64Add ⟨1#7, 14#7, 66#7, true, false, .e64, .x9, .four⟩ false .default) := by decide
theorem test_decode_p64_sub : decode (.w64 0x5A7F4042093220BF#64) = .ok (.p64Sub ⟨50#7, 68#7, 4#7, true, false, .e64, .none, .two⟩ true (.mvl 9#5 31#5)) := by decide
theorem test_decode_p64_sll : decode (.w64 0x8ADC007B18B336BF#64) = .ok (.p64Sll ⟨113#7, 54#7, 7#7, true, false, .e16, .x9, .two⟩ false (.mvlVl 11#5 14#5)) := by decide
theorem test_decode_p64_slt : decode (.w64 0x800001D9A831D13F#64) = .ok (.p64Slt ⟨80#7, 51#7, 61#7, false, true, .e16, .none, .three⟩ false .default) := by decide
theorem test_decode_p64_sltu : decode (.w64 0x620501963830883F#64) = .ok (.p64Sltu ⟨16#7, 76#7, 121#7, false, false, .e8, .none, .subvl⟩ false (.vlReg 8#5 2#5)) := by decide
theorem test_decode_p64_xor : decode (.w64 0x18DC001DC73198BF#64) = .ok (.p64Xor ⟨14#7, 59#7, 33#7, false, false, .e32, .none, .two⟩ true (.mvlVl 3#5 14#5)) := by decide
theorem test_decode_p64_srl : decode (.w64 0xF0000098DBB29DBF#64) = .ok (.p64Srl ⟨119#7, 81#7, 105#7, false, false, .e32, .notX9, .four⟩ true .default) := by decide
theorem test_decode_p64_sra : decode (.w64 0x4152416AD63360BF#64) = .ok (.p64Sra ⟨44#7, 117#7, 22#7, true, true, .e64, .none, .two⟩ false (.vlImm 5#5 9#5)) := by decide
theorem test_decode_p64_or : decode (.w64 0x006D00A5673157BF#64) = .ok (.p64Or ⟨14#7, 42#7, 10#7, false, true, .e16, .x9, .four⟩ false (.vlReg 1#5 22#5)) := by decide
theorem test_decode_p64_and : decode (.w64 0x3C5D00967DB0EFBF#64) = .ok (.p64And ⟨27#7, 12#7, 105#7, true, true, .e8, .x9, .four⟩ true (.mvl 17#5 14#5)) := by decide
theorem test_decode_p64_addw : decode (.w64 0x200001EF09BBC8BF#64) = .ok (.p64Addw ⟨51#7, 62#7, 126#7, false, true, .e8, .none, .two⟩ false .default) := by decide
theorem test_decode_p64_subw : decode (.w64 0x0000406E08B8063F#64) = .ok (.p64Subw ⟨17#7, 28#7, 6#7, false, false, .e64, .x9, .subvl⟩ false .default) := by decide
theorem test_decode_p64_sllw : decode (.w64 0xC77A00149438CD3F#64) = .ok (.p64Sllw ⟨72#7, 73#7, 33#7, false, true, .e8, .notX9, .three⟩ false (.vlImm 29#5 29#5)) := by decide
theorem test_decode_p64_srlw : decode (.w64 0x56F301DE5E3BA0BF#64) = .ok (.p64Srlw ⟨60#7, 124#7, 61#7, true, false, .e64, .none, .two⟩ true (.vlReg 27#5 25#5)) := by decide
theorem test_decode_p64_sraw : decode (.w64 0x8531409C5DBA383F#64) = .ok (.p64Sraw ⟨123#7, 24#7, 9#7, true, false, .e32, .none, .subvl⟩ false (.vlReg 20#5 24#5)) := by decide
theorem test_decode_p64_lb : decode (.w64 0x072FB6D306823CBF#64) = .ok (.p64Lb ⟨45#7, 6#7, false, true, .e32, .offX10, .two⟩ 2925#12 (.vlReg 28#5 23#5)) := by decide
theorem test_decode_p64_lh : decode (.w64 0x4D2A05D01902163F#64) = .ok (.p64Lh ⟨50#7, 64#7, false, false, .e16, .x9X10, .subvl⟩ 93#12 (.mvlVl 20#5 21#5)) := by decide
theorem test_decode_p64_lw : decode (.w64 0xC5A291E32E0172BF#64) = .ok (.p64Lw ⟨92#7, 102#7, true, true, .e16, .x9Off, .two⟩ 2334#12 (.vlImm 22#5 17#5)) := by decide
theorem test_decode_p64_ld : decode (.w64 0xC9706D8739021A3F#64) = .ok (.p64Ld ⟨114#7, 78#7, false, false, .e32, .x9Off, .subvl⟩ 1752#12 (.mvlVl 5#5 24#5)) := by decide
theorem test_decode_p64_lbu : decode (.w64 0xCD4DFE7B4382F0BF#64) = .ok (.p64Lbu ⟨103#7, 86#7, true, true, .e16, .tbd, .two⟩ 4071#12 (.mvl 21#5 6#5)) := by decide
theorem test_decode_p64_lhu : decode (.w64 0x80001DDE5682B93F#64) = .ok (.p64Lhu ⟨109#7, 28#7, false, true, .e32, .tbd, .three⟩ 477#12 .default) := by decide
theorem test_decode_p64_lwu : decode (.w64 0x8AD5385E6B02FEBF#64) = .ok (.p64Lwu ⟨118#7, 28#7, true, true, .e32, .notX9NotX10, .two⟩ 901#12 (.mvl 11#5 10#5)) := by decide
theorem test_decode_p64_sb : decode (.w64 0x40007CD80923383F#64) = .ok (.p64Sb ⟨112#7, 13#7, true, false, .e32, .tbd, .subvl⟩ 2002#12 .default) := by decide
theorem test_decode_p64_sh : decode (.w64 0x2A93CF75962295BF#64) = .ok (.p64Sh ⟨11#7, 119#7, false, false, .e16, .offNotX10, .four⟩ 3308#12 (.mvl 10#5 9#5)) := by decide
theorem test_decode_p64_sw : decode (.w64 0x2000AF15A8A14C3F#64) = .ok (.p64Sw ⟨43#7, 81#7, false, true, .e8, .offX10, .subvl⟩ 2801#12 .default) := by decide
theorem test_decode_p64_sd : decode (.w64 0x25FCB9393220183F#64) = .ok (.p64Sd ⟨18#7, 83#7, false, false, .e32, .none, .subvl⟩ 2948#12 (.vlImm 23#5 30#5)) := by decide
theorem test_decode_p48_load_fp : decode (.w48 0x1A023784039F#48) = .ok (.p48LoadFp ⟨15#6, 4#6, false, false, .e64, .x9Off, .four⟩ 3#3 416#12) := by decide
theorem test_decode_p48_store_fp : decode (.w48 0x387A1A24B29F#48) = .ok (.p48StoreFp ⟨20#6, 39#6, true, false, .e16, .x9Off, .two⟩ 1#3 916#12) := by decide
theorem test_decode_p48_op_fp : decode (.w48 0x6B66E753A89F#48) = .ok (.p48OpFp ⟨46#6, 45#6, 54#6, true, false, .notX10, .two, 6#3, 1#2, 13#5⟩) := by decide
theorem test_decode_p48_madd : decode (.w48 0x14C894C1DB9F#48) = .ok (.p48Madd ⟨9#6, 49#6, 44#6, 2#6, true, true, .x10, .four, 1#3, 2#2⟩) := by decide
theorem test_decode_p48_msub : decode (.w48 0xB2F43844AB9F#48) = .ok (.p48Msub ⟨16#6, 8#6, 47#6, 54#6, false, false, .x10, .four, 3#3, 1#2⟩) := by decide
theorem test_decode_p48_nmsub : decode (.w48 0x85461A491D1F#48) = .ok (.p48Nmsub ⟨20#6, 44#6, 20#6, 16#6, false, true, .notX11, .three, 1#3, 2#2⟩) := by decide
theorem test_decode_p48_nmadd : decode (.w48 0xC72E1F4D6B1F#48) = .ok (.p48Nmadd ⟨30#6, 60#6, 18#6, 56#6, true, false, .x10, .three, 1#3, 3#2⟩) := by decide
theorem test_decode_p64_load_fp : decode (.w64 0x40005ACD688573BF#64) = .ok (.p64LoadFp ⟨17#7, 122#7, true, true, .e16, .x9Off, .four⟩ 6#3 1452#12 .default) := by decide
theorem test_decode_p64_store_fp : decode (.w64 0x64E1600D90A6FCBF#64) = .ok (.p64StoreFp ⟨91#7, 96#7, true, true, .e32, .offNotX10, .two⟩ 1#3 1537#12 (.vlReg 19#5 16#5)) := by decide
theorem test_decode_p64_op_fp : decode (.w64 0x54C5D5E2CCD2E93F#64) = .ok (.p64OpFp ⟨57#7, 69#7, 62#7, true, true, .notX10, .three, 4#3, 2#2, 26#5⟩ true (.vlReg 19#5 2#5)) := by decide
theorem test_decode_p64_madd : decode (.w64 0xF176FDA8D0C0E93F#64) = .ok (.p64Madd ⟨65#7, 81#7, 122#7, 127#7, true, false, .notX10, .three, 5#3, 2#2⟩ (.vlImm 5#5 27#5)) := by decide
theorem test_decode_p64_msub : decode (.w64 0x1C2B8A1320C7CC3F#64) = .ok (.p64Msub ⟨33#7, 38#7, 33#7, 81#7, true, false, .notX11, .subvl, 2#3, 1#2⟩ (.mvl 16#5 21#5)) := by decide
theorem test_decode_p64_nmsub : decode (.w64 0x9000BF5B90499EBF#64) = .ok (.p64Nmsub ⟨64#7, 55#7, 53#7, 87#7, false, true, .x11, .two, 1#3, 3#2⟩ .default) := by decide
theorem test_decode_p64_nmadd : decode (.w64 0x00000F96ABCCF93F#64) = .ok (.p64Nmadd ⟨23#7, 13#7, 57#7, 33#7, true, true, .notX10, .three, 2#3, 3#2⟩ .default) := by decide

/-! ### Single steps, from the test vectors -/

/-- T49: `lui x5, 0x12345` -/
theorem test_step_lui_T49 : ends (run 32 0x123452b7 0x0 [] [])
    0x1004 0x0 [(5, 0x12345000)] [] (none) = true := by decide

/-- T52: `auipc x6, 1` -/
theorem test_step_auipc_T52 : ends (run 32 0x1317 0x0 [] [])
    0x1004 0x0 [(6, 0x2000)] [] (none) = true := by decide

/-- T56: `addi x0, x0, 0` -/
theorem test_step_addi_T56 : ends (run 32 0x13 0x0 [] [])
    0x1004 0x0 [] [] (none) = true := by decide

/-- T58: `slti x2, x1, 0` -/
theorem test_step_slti_T58 : ends (run 32 0xa113 0x0 [(1, 0xffffffffffffffff)] [])
    0x1004 0x0 [(2, 1)] [] (none) = true := by decide

/-- T60: `sltiu x2, x1, -1` -/
theorem test_step_sltiu_T60 : ends (run 32 0xfff0b113 0x0 [(1, 5)] [])
    0x1004 0x0 [(2, 1)] [] (none) = true := by decide

/-- T62: `xori x2, x1, -1` -/
theorem test_step_xori_T62 : ends (run 32 0xfff0c113 0x0 [(1, 0xff00ff00ff00ff)] [])
    0x1004 0x0 [(2, 0xff00ff00ff00ff00)] [] (none) = true := by decide

/-- T63: `ori x2, x1, 2047` -/
theorem test_step_ori_T63 : ends (run 32 0x7ff0e113 0x0 [(1, 0x1000)] [])
    0x1004 0x0 [(2, 0x17ff)] [] (none) = true := by decide

/-- T64: `andi x2, x1, 255` -/
theorem test_step_andi_T64 : ends (run 32 0xff0f113 0x0 [(1, 0x1234)] [])
    0x1004 0x0 [(2, 0x34)] [] (none) = true := by decide

/-- T66: `slli x2, x1, 63` -/
theorem test_step_slli_T66 : ends (run 32 0x3f09113 0x0 [(1, 1)] [])
    0x1004 0x0 [(2, 0x8000000000000000)] [] (none) = true := by decide

/-- T68: `srli x2, x1, 63` -/
theorem test_step_srli_T68 : ends (run 32 0x3f0d113 0x0 [(1, 0x8000000000000000)] [])
    0x1004 0x0 [(2, 1)] [] (none) = true := by decide

/-- T69: `srai x2, x1, 63` -/
theorem test_step_srai_T69 : ends (run 32 0x43f0d113 0x0 [(1, 0x8000000000000000)] [])
    0x1004 0x0 [(2, 0xffffffffffffffff)] [] (none) = true := by decide

/-- T71: `addiw x2, x1, 1` -/
theorem test_step_addiw_T71 : ends (run 32 0x10811b 0x0 [(1, 0x7fffffff)] [])
    0x1004 0x0 [(2, 0xffffffff80000000)] [] (none) = true := by decide

/-- T73: `slliw x2, x1, 31` -/
theorem test_step_slliw_T73 : ends (run 32 0x1f0911b 0x0 [(1, 1)] [])
    0x1004 0x0 [(2, 0xffffffff80000000)] [] (none) = true := by decide

/-- T75: `srliw x2, x1, 31` -/
theorem test_step_srliw_T75 : ends (run 32 0x1f0d11b 0x0 [(1, 0xffffffff80000000)] [])
    0x1004 0x0 [(2, 1)] [] (none) = true := by decide

/-- T77: `sraiw x2, x1, 31` -/
theorem test_step_sraiw_T77 : ends (run 32 0x41f0d11b 0x0 [(1, 0x80000000)] [])
    0x1004 0x0 [(2, 0xffffffffffffffff)] [] (none) = true := by decide

/-- T78: `add x3, x1, x2` -/
theorem test_step_add_T78 : ends (run 32 0x2081b3 0x0 [(1, 0x7fffffffffffffff), (2, 1)] [])
    0x1004 0x0 [(3, 0x8000000000000000)] [] (none) = true := by decide

/-- T80: `sub x1, x1, x1` -/
theorem test_step_sub_T80 : ends (run 32 0x401080b3 0x0 [(1, 0x1234)] [])
    0x1004 0x0 [(1, 0)] [] (none) = true := by decide

/-- T81: `sll x3, x1, x2` -/
theorem test_step_sll_T81 : ends (run 32 0x2091b3 0x0 [(1, 1), (2, 0x40)] [])
    0x1004 0x0 [(3, 1)] [] (none) = true := by decide

/-- T83: `slt x3, x1, x2` -/
theorem test_step_slt_T83 : ends (run 32 0x20a1b3 0x0 [(1, 0xffffffffffffffff), (2, 1)] [])
    0x1004 0x0 [(3, 1)] [] (none) = true := by decide

/-- T86: `sltu x3, x0, x2` -/
theorem test_step_sltu_T86 : ends (run 32 0x2031b3 0x0 [(2, 0x10)] [])
    0x1004 0x0 [(3, 1)] [] (none) = true := by decide

/-- T87: `xor x3, x1, x2` -/
theorem test_step_xor_T87 : ends (run 32 0x20c1b3 0x0 [(1, 0xff00ff00ff00ff00), (2, 0xff00ff00ff00ff0)] [])
    0x1004 0x0 [(3, 0xf0f0f0f0f0f0f0f0)] [] (none) = true := by decide

/-- T88: `srl x3, x1, x2` -/
theorem test_step_srl_T88 : ends (run 32 0x20d1b3 0x0 [(1, 0x8000000000000000), (2, 0x43)] [])
    0x1004 0x0 [(3, 0x1000000000000000)] [] (none) = true := by decide

/-- T89: `sra x3, x1, x2` -/
theorem test_step_sra_T89 : ends (run 32 0x4020d1b3 0x0 [(1, 0x8000000000000000), (2, 0x43)] [])
    0x1004 0x0 [(3, 0xf000000000000000)] [] (none) = true := by decide

/-- T90: `or x3, x1, x2` -/
theorem test_step_or_T90 : ends (run 32 0x20e1b3 0x0 [(1, 0xf0), (2, 0xf)] [])
    0x1004 0x0 [(3, 0xff)] [] (none) = true := by decide

/-- T91: `and x3, x1, x2` -/
theorem test_step_and_T91 : ends (run 32 0x20f1b3 0x0 [(1, 0xff), (2, 0x3c)] [])
    0x1004 0x0 [(3, 0x3c)] [] (none) = true := by decide

/-- T92: `addw x3, x1, x2` -/
theorem test_step_addw_T92 : ends (run 32 0x2081bb 0x0 [(1, 0x7fffffff), (2, 1)] [])
    0x1004 0x0 [(3, 0xffffffff80000000)] [] (none) = true := by decide

/-- T94: `subw x3, x1, x2` -/
theorem test_step_subw_T94 : ends (run 32 0x402081bb 0x0 [(1, 0), (2, 1)] [])
    0x1004 0x0 [(3, 0xffffffffffffffff)] [] (none) = true := by decide

/-- T96: `sllw x3, x1, x2` -/
theorem test_step_sllw_T96 : ends (run 32 0x2091bb 0x0 [(1, 1), (2, 0x21)] [])
    0x1004 0x0 [(3, 2)] [] (none) = true := by decide

/-- T97: `srlw x3, x1, x2` -/
theorem test_step_srlw_T97 : ends (run 32 0x20d1bb 0x0 [(1, 0x80000000), (2, 4)] [])
    0x1004 0x0 [(3, 0x8000000)] [] (none) = true := by decide

/-- T98: `sraw x3, x1, x2` -/
theorem test_step_sraw_T98 : ends (run 32 0x4020d1bb 0x0 [(1, 0x80000000), (2, 4)] [])
    0x1004 0x0 [(3, 0xfffffffff8000000)] [] (none) = true := by decide

/-- T100: `lb x3, 0(x1)` -/
theorem test_step_lb_T100 : ends (run 32 0x8183 0x0 [(1, 0x2000)] [(8192, 0xf1), (8193, 0xf2), (8194, 0xf3), (8195, 0xf4), (8196, 0xf5), (8197, 0xf6), (8198, 0xf7), (8199, 0xf8)])
    0x1004 0x0 [(3, 0xfffffffffffffff1)] [] (none) = true := by decide

/-- T115: `lb x3, -1(x1)` -/
theorem test_step_lb_T115 : ends (run 32 0xfff08183 0x0 [(1, 0x1000)] [])
    0x1000 0x0 [] [] (some ⟨.loadAccessFault, 0xFFF#64⟩) = true := by decide

/-- T102: `lh x3, 2(x1)` -/
theorem test_step_lh_T102 : ends (run 32 0x209183 0x0 [(1, 0x2000)] [(8192, 0xf1), (8193, 0xf2), (8194, 0xf3), (8195, 0xf4), (8196, 0xf5), (8197, 0xf6), (8198, 0xf7), (8199, 0xf8)])
    0x1004 0x0 [(3, 0xfffffffffffff4f3)] [] (none) = true := by decide

/-- T111: `lh x3, 7(x1)` -/
theorem test_step_lh_T111 : ends (run 32 0x709183 0x0 [(1, 0x2000)] [(8192, 0xf1), (8193, 0xf2), (8194, 0xf3), (8195, 0xf4), (8196, 0xf5), (8197, 0xf6), (8198, 0xf7), (8199, 0xf8)])
    0x1000 0x0 [] [] (some ⟨.loadAddressMisaligned, 0x2007#64⟩) = true := by decide

/-- T103: `lw x3, 4(x1)` -/
theorem test_step_lw_T103 : ends (run 32 0x40a183 0x0 [(1, 0x2000)] [(8192, 0xf1), (8193, 0xf2), (8194, 0xf3), (8195, 0xf4), (8196, 0xf5), (8197, 0xf6), (8198, 0xf7), (8199, 0xf8)])
    0x1004 0x0 [(3, 0xfffffffff8f7f6f5)] [] (none) = true := by decide

/-- T113: `lw x3, 0(x1)` -/
theorem test_step_lw_T113 : ends (run 32 0xa183 0x0 [(1, 0x3000)] [])
    0x1000 0x0 [] [] (some ⟨.loadAccessFault, 0x3000#64⟩) = true := by decide

/-- T104: `ld x3, 0(x1)` -/
theorem test_step_ld_T104 : ends (run 32 0xb183 0x0 [(1, 0x2000)] [(8192, 0xf1), (8193, 0xf2), (8194, 0xf3), (8195, 0xf4), (8196, 0xf5), (8197, 0xf6), (8198, 0xf7), (8199, 0xf8)])
    0x1004 0x0 [(3, 0xf8f7f6f5f4f3f2f1)] [] (none) = true := by decide

/-- T114: `ld x3, 0(x1)` -/
theorem test_step_ld_T114 : ends (run 32 0xb183 0x0 [(1, 0)] [])
    0x1000 0x0 [] [] (some ⟨.loadAccessFault, 0x0#64⟩) = true := by decide

/-- T105: `lbu x3, 0(x1)` -/
theorem test_step_lbu_T105 : ends (run 32 0xc183 0x0 [(1, 0x2000)] [(8192, 0xf1), (8193, 0xf2), (8194, 0xf3), (8195, 0xf4), (8196, 0xf5), (8197, 0xf6), (8198, 0xf7), (8199, 0xf8)])
    0x1004 0x0 [(3, 0xf1)] [] (none) = true := by decide

/-- T106: `lhu x3, 2(x1)` -/
theorem test_step_lhu_T106 : ends (run 32 0x20d183 0x0 [(1, 0x2000)] [(8192, 0xf1), (8193, 0xf2), (8194, 0xf3), (8195, 0xf4), (8196, 0xf5), (8197, 0xf6), (8198, 0xf7), (8199, 0xf8)])
    0x1004 0x0 [(3, 0xf4f3)] [] (none) = true := by decide

/-- T107: `lwu x3, 4(x1)` -/
theorem test_step_lwu_T107 : ends (run 32 0x40e183 0x0 [(1, 0x2000)] [(8192, 0xf1), (8193, 0xf2), (8194, 0xf3), (8195, 0xf4), (8196, 0xf5), (8197, 0xf6), (8198, 0xf7), (8199, 0xf8)])
    0x1004 0x0 [(3, 0xf8f7f6f5)] [] (none) = true := by decide

/-- T116: `sb x2, 0(x1)` -/
theorem test_step_sb_T116 : ends (run 32 0x208023 0x0 [(1, 0x2000), (2, 0x1122334455667788)] [])
    0x1004 0x0 [] [(8192, 0x88)] (none) = true := by decide

/-- T117: `sh x2, 2(x1)` -/
theorem test_step_sh_T117 : ends (run 32 0x209123 0x0 [(1, 0x2000), (2, 0x1122334455667788)] [])
    0x1004 0x0 [] [(8194, 0x88), (8195, 0x77)] (none) = true := by decide

/-- T122: `sh x2, 1(x1)` -/
theorem test_step_sh_T122 : ends (run 32 0x2090a3 0x0 [(1, 0x2000), (2, 0x1122334455667788)] [])
    0x1000 0x0 [] [] (some ⟨.storeAddressMisaligned, 0x2001#64⟩) = true := by decide

/-- T118: `sw x2, 4(x1)` -/
theorem test_step_sw_T118 : ends (run 32 0x20a223 0x0 [(1, 0x2000), (2, 0x1122334455667788)] [])
    0x1004 0x0 [] [(8196, 0x88), (8197, 0x77), (8198, 0x66), (8199, 0x55)] (none) = true := by decide

/-- T121: `sw x2, 2(x1)` -/
theorem test_step_sw_T121 : ends (run 32 0x20a123 0x0 [(1, 0x2000), (2, 0x1122334455667788)] [])
    0x1000 0x0 [] [] (some ⟨.storeAddressMisaligned, 0x2002#64⟩) = true := by decide

/-- T119: `sd x2, 8(x1)` -/
theorem test_step_sd_T119 : ends (run 32 0x20b423 0x0 [(1, 0x2000), (2, 0x1122334455667788)] [])
    0x1004 0x0 [] [(8200, 0x88), (8201, 0x77), (8202, 0x66), (8203, 0x55), (8204, 0x44), (8205, 0x33), (8206, 0x22), (8207, 0x11)] (none) = true := by decide

/-- T123: `sd x2, 0(x1)` -/
theorem test_step_sd_T123 : ends (run 32 0x20b023 0x0 [(1, 0x3000), (2, 0x1122334455667788)] [])
    0x1000 0x0 [] [] (some ⟨.storeAccessFault, 0x3000#64⟩) = true := by decide

/-- T125: `jal x1, 8` -/
theorem test_step_jal_T125 : ends (run 32 0x8000ef 0x0 [] [])
    0x1008 0x0 [(1, 0x1004)] [] (none) = true := by decide

/-- T129: `jalr x1, 0(x5)` -/
theorem test_step_jalr_T129 : ends (run 32 0x280e7 0x0 [(5, 0x2003)] [])
    0x2002 0x0 [(1, 0x1004)] [] (none) = true := by decide

/-- T145: `beq x0, x0, -8` -/
theorem test_step_beq_T145 : ends (run 32 0xfe000ce3 0x0 [] [])
    0xff8 0x0 [] [] (none) = true := by decide

/-- T134: `bne x1, x2, 16` -/
theorem test_step_bne_T134 : ends (run 32 0x209863 0x0 [(1, 5), (2, 6)] [])
    0x1010 0x0 [] [] (none) = true := by decide

/-- T136: `blt x1, x2, 16` -/
theorem test_step_blt_T136 : ends (run 32 0x20c863 0x0 [(1, 0xffffffffffffffff), (2, 0)] [])
    0x1010 0x0 [] [] (none) = true := by decide

/-- T138: `bge x1, x2, 16` -/
theorem test_step_bge_T138 : ends (run 32 0x20d863 0x0 [(1, 0), (2, 0xffffffffffffffff)] [])
    0x1010 0x0 [] [] (none) = true := by decide

/-- T141: `bltu x1, x2, 16` -/
theorem test_step_bltu_T141 : ends (run 32 0x20e863 0x0 [(1, 0), (2, 0xffffffffffffffff)] [])
    0x1010 0x0 [] [] (none) = true := by decide

/-- T143: `bgeu x1, x2, 16` -/
theorem test_step_bgeu_T143 : ends (run 32 0x20f863 0x0 [(1, 0xffffffffffffffff), (2, 0)] [])
    0x1010 0x0 [] [] (none) = true := by decide

/-- T146: `fence` -/
theorem test_step_fence_T146 : ends (run 32 0xff0000f 0x0 [] [])
    0x1004 0x0 [] [] (none) = true := by decide

/-- T148: `ecall` -/
theorem test_step_ecall_T148 : ends (run 32 0x73 0x0 [] [])
    0x1000 0x0 [] [] (some ⟨.environmentCall, 0x0#64⟩) = true := by decide

/-- T149: `ebreak` -/
theorem test_step_ebreak_T149 : ends (run 32 0x100073 0x0 [] [])
    0x1000 0x0 [] [] (some ⟨.breakpoint, 0x1000#64⟩) = true := by decide

/-- T150: `csrrw x6, 0x800, x5` -/
theorem test_step_csrrw_T150 : ends (run 32 0x80029373 0x0 [(5, 0x104)] [])
    0x1004 0x104 [(6, 0)] [] (none) = true := by decide

/-- T24: `csrrw x0, 0x300, x0 (mstatus: no such CSR)` -/
theorem test_step_csrrw_T24 : ends (run 32 0x30001073 0x0 [] [])
    0x1000 0x0 [] [] (some ⟨.illegalInstruction, 0x30001073#64⟩) = true := by decide

/-- T152: `csrrs x6, 0x800, x0` -/
theorem test_step_csrrs_T152 : ends (run 32 0x80002373 0x104 [] [])
    0x1004 0x104 [(6, 0x104)] [] (none) = true := by decide

/-- T25: `csrrs x5, 0xC00, x0 (cycle: no counters)` -/
theorem test_step_csrrs_T25 : ends (run 32 0xc00022f3 0x0 [] [])
    0x1000 0x0 [] [] (some ⟨.illegalInstruction, 0xC00022F3#64⟩) = true := by decide

/-- T154: `csrrc x6, 0x800, x5` -/
theorem test_step_csrrc_T154 : ends (run 32 0x8002b373 0x104 [(5, 0xfc0)] [])
    0x1004 0x4 [(6, 0x104)] [] (none) = true := by decide

/-- T155: `csrrwi x6, 0x800, 8` -/
theorem test_step_csrrwi_T155 : ends (run 32 0x80045373 0x104 [] [])
    0x1004 0x8 [(6, 0x104)] [] (none) = true := by decide

/-- T156: `csrrsi x0, 0x800, 3` -/
theorem test_step_csrrsi_T156 : ends (run 32 0x8001e073 0x104 [] [])
    0x1004 0x107 [] [] (none) = true := by decide

/-- T157: `csrrci x6, 0x800, 4` -/
theorem test_step_csrrci_T157 : ends (run 32 0x80027373 0x104 [] [])
    0x1004 0x100 [(6, 0x104)] [] (none) = true := by decide

/-- T193: `p48.lui x63, 0x12345` -/
theorem test_step_p48_lui_T193 : ends (run 48 0x12345fb6001f 0x0 [] [])
    0x1006 0x0 [(63, 0x12345000)] [] (none) = true := by decide

/-- T194: `p48.auipc x32, 1` -/
theorem test_step_p48_auipc_T194 : ends (run 48 0x1016001f 0x0 [] [])
    0x1006 0x0 [(32, 0x2000)] [] (none) = true := by decide

/-- T333: `p48.addi x40, x20, 1, ew=8, svlen=3` -/
theorem test_step_p48_addi_T333 : ends (run 48 0x1a0412091f 0x0 [(20, 0x4030201), (40, 0xeeeeeeee)] [])
    0x1006 0x2000000 [(40, 0xee040302)] [] (none) = true := by decide

/-- T343: `p48.addi x40, x126.v, 0, svlen=3` -/
theorem test_step_p48_addi_T343 : ends (run 48 0xf8413211f 0x0 [(126, 1), (127, 2)] [])
    0x1000 0xa000000 [(40, 1), (41, 2)] [] (some ⟨.illegalInstruction, 0xF8413211F#64⟩) = true := by decide

/-- T181: `p48.slti x33, x62, 0` -/
theorem test_step_p48_slti_T181 : ends (run 48 0xf2093001f 0x0 [(62, 0xffffffffffffffff)] [])
    0x1006 0x0 [(33, 1)] [] (none) = true := by decide

/-- T182: `p48.sltiu x33, x62, -1` -/
theorem test_step_p48_sltiu_T182 : ends (run 48 0xffff3093001f 0x0 [(62, 5)] [])
    0x1006 0x0 [(33, 1)] [] (none) = true := by decide

/-- T183: `p48.xori x33, x62, -1` -/
theorem test_step_p48_xori_T183 : ends (run 48 0xffff4093001f 0x0 [(62, 0xff)] [])
    0x1006 0x0 [(33, 0xffffffffffffff00)] [] (none) = true := by decide

/-- T184: `p48.ori x33, x62, 2047` -/
theorem test_step_p48_ori_T184 : ends (run 48 0x7fff6093001f 0x0 [(62, 0x1000)] [])
    0x1006 0x0 [(33, 0x17ff)] [] (none) = true := by decide

/-- T185: `p48.andi x33, x62, 255` -/
theorem test_step_p48_andi_T185 : ends (run 48 0xfff7093001f 0x0 [(62, 0x1234)] [])
    0x1006 0x0 [(33, 0x34)] [] (none) = true := by decide

/-- T186: `p48.slli x33, x62, 63` -/
theorem test_step_p48_slli_T186 : ends (run 48 0x3ff1093001f 0x0 [(62, 1)] [])
    0x1006 0x0 [(33, 0x8000000000000000)] [] (none) = true := by decide

/-- T187: `p48.srli x33, x62, 63` -/
theorem test_step_p48_srli_T187 : ends (run 48 0x3ff5093001f 0x0 [(62, 0x8000000000000000)] [])
    0x1006 0x0 [(33, 1)] [] (none) = true := by decide

/-- T188: `p48.srai x33, x62, 63` -/
theorem test_step_p48_srai_T188 : ends (run 48 0x43ff5093001f 0x0 [(62, 0x8000000000000000)] [])
    0x1006 0x0 [(33, 0xffffffffffffffff)] [] (none) = true := by decide

/-- T189: `p48.addiw x33, x62, 1` -/
theorem test_step_p48_addiw_T189 : ends (run 48 0x1f009b001f 0x0 [(62, 0x7fffffff)] [])
    0x1006 0x0 [(33, 0xffffffff80000000)] [] (none) = true := by decide

/-- T190: `p48.slliw x33, x62, 31` -/
theorem test_step_p48_slliw_T190 : ends (run 48 0x1ff109b001f 0x0 [(62, 1)] [])
    0x1006 0x0 [(33, 0xffffffff80000000)] [] (none) = true := by decide

/-- T191: `p48.srliw x33, x62, 31` -/
theorem test_step_p48_srliw_T191 : ends (run 48 0x1ff509b001f 0x0 [(62, 0xffffffff80000000)] [])
    0x1006 0x0 [(33, 1)] [] (none) = true := by decide

/-- T192: `p48.sraiw x33, x62, 31` -/
theorem test_step_p48_sraiw_T192 : ends (run 48 0x41ff509b001f 0x0 [(62, 0x80000000)] [])
    0x1006 0x0 [(33, 0xffffffffffffffff)] [] (none) = true := by decide

/-- T332: `p48.add x40.v, x20.v, x30.v, ew=16, svlen=4` -/
theorem test_step_p48_add_T332 : ends (run 48 0x1ea0432719f 0x0 [(20, 0x4000300020001), (30, 0x10001000100010), (40, 0)] [])
    0x1006 0x3000000 [(40, 0x14001300120011)] [] (none) = true := by decide

/-- T29: `p48.add x1, x2, x3 with vitp6 = 000100 (pred 001 reserved)` -/
theorem test_step_p48_add_T29 : ends (run 48 0x3100b0021f 0x0 [(2, 1), (3, 1)] [])
    0x1000 0x0 [] [] (some ⟨.illegalInstruction, 0x3100B0021F#64⟩) = true := by decide

/-- T166: `p48.sub x40, x41, x63` -/
theorem test_step_p48_sub_T166 : ends (run 48 0x41f48433801f 0x0 [(41, 0), (63, 1)] [])
    0x1006 0x0 [(40, 0xffffffffffffffff)] [] (none) = true := by decide

/-- T167: `p48.sll x40, x41, x63` -/
theorem test_step_p48_sll_T167 : ends (run 48 0x1f49433801f 0x0 [(41, 1), (63, 0x7f)] [])
    0x1006 0x0 [(40, 0x8000000000000000)] [] (none) = true := by decide

/-- T168: `p48.slt x40, x41, x63` -/
theorem test_step_p48_slt_T168 : ends (run 48 0x1f4a433801f 0x0 [(41, 0xffffffffffffffff), (63, 1)] [])
    0x1006 0x0 [(40, 1)] [] (none) = true := by decide

/-- T169: `p48.sltu x40, x41, x63` -/
theorem test_step_p48_sltu_T169 : ends (run 48 0x1f4b433801f 0x0 [(41, 0xffffffffffffffff), (63, 1)] [])
    0x1006 0x0 [(40, 0)] [] (none) = true := by decide

/-- T170: `p48.xor x40, x41, x63` -/
theorem test_step_p48_xor_T170 : ends (run 48 0x1f4c433801f 0x0 [(41, 0xff00), (63, 0xff0)] [])
    0x1006 0x0 [(40, 0xf0f0)] [] (none) = true := by decide

/-- T171: `p48.srl x40, x41, x63` -/
theorem test_step_p48_srl_T171 : ends (run 48 0x1f4d433801f 0x0 [(41, 0x8000000000000000), (63, 3)] [])
    0x1006 0x0 [(40, 0x1000000000000000)] [] (none) = true := by decide

/-- T172: `p48.sra x40, x41, x63` -/
theorem test_step_p48_sra_T172 : ends (run 48 0x41f4d433801f 0x0 [(41, 0x8000000000000000), (63, 3)] [])
    0x1006 0x0 [(40, 0xf000000000000000)] [] (none) = true := by decide

/-- T173: `p48.or x40, x41, x63` -/
theorem test_step_p48_or_T173 : ends (run 48 0x1f4e433801f 0x0 [(41, 0xf0), (63, 0xf)] [])
    0x1006 0x0 [(40, 0xff)] [] (none) = true := by decide

/-- T174: `p48.and x40, x41, x63` -/
theorem test_step_p48_and_T174 : ends (run 48 0x1f4f433801f 0x0 [(41, 0xff), (63, 0x3c)] [])
    0x1006 0x0 [(40, 0x3c)] [] (none) = true := by decide

/-- T175: `p48.addw x40, x41, x63` -/
theorem test_step_p48_addw_T175 : ends (run 48 0x1f4843b801f 0x0 [(41, 0x7fffffff), (63, 1)] [])
    0x1006 0x0 [(40, 0xffffffff80000000)] [] (none) = true := by decide

/-- T176: `p48.subw x40, x41, x63` -/
theorem test_step_p48_subw_T176 : ends (run 48 0x41f4843b801f 0x0 [(41, 0), (63, 1)] [])
    0x1006 0x0 [(40, 0xffffffffffffffff)] [] (none) = true := by decide

/-- T177: `p48.sllw x40, x41, x63` -/
theorem test_step_p48_sllw_T177 : ends (run 48 0x1f4943b801f 0x0 [(41, 1), (63, 0x21)] [])
    0x1006 0x0 [(40, 2)] [] (none) = true := by decide

/-- T178: `p48.srlw x40, x41, x63` -/
theorem test_step_p48_srlw_T178 : ends (run 48 0x1f4d43b801f 0x0 [(41, 0x80000000), (63, 4)] [])
    0x1006 0x0 [(40, 0x8000000)] [] (none) = true := by decide

/-- T179: `p48.sraw x40, x41, x63` -/
theorem test_step_p48_sraw_T179 : ends (run 48 0x41f4d43b801f 0x0 [(41, 0x80000000), (63, 4)] [])
    0x1006 0x0 [(40, 0xfffffffff8000000)] [] (none) = true := by decide

/-- T254: `p48.lb x40, 15(x33)` -/
theorem test_step_p48_lb_T254 : ends (run 48 0xf08403001f 0x0 [(33, 0x2000)] [(8192, 0x11), (8193, 0x22), (8194, 0x33), (8195, 0x44), (8196, 0x55), (8197, 0x66), (8198, 0x77), (8199, 0x88), (8200, 0x99), (8201, 0xaa), (8202, 0xbb), (8203, 0xcc), (8204, 0xdd), (8205, 0xee), (8206, 0xff), (8207, 0x80)])
    0x1006 0x0 [(40, 0xffffffffffffff80)] [] (none) = true := by decide

/-- T255: `p48.lh x40, 14(x33)` -/
theorem test_step_p48_lh_T255 : ends (run 48 0xe09403001f 0x0 [(33, 0x2000)] [(8192, 0x11), (8193, 0x22), (8194, 0x33), (8195, 0x44), (8196, 0x55), (8197, 0x66), (8198, 0x77), (8199, 0x88), (8200, 0x99), (8201, 0xaa), (8202, 0xbb), (8203, 0xcc), (8204, 0xdd), (8205, 0xee), (8206, 0xff), (8207, 0x80)])
    0x1006 0x0 [(40, 0xffffffffffff80ff)] [] (none) = true := by decide

/-- T256: `p48.lw x40, 12(x33)` -/
theorem test_step_p48_lw_T256 : ends (run 48 0xc0a403001f 0x0 [(33, 0x2000)] [(8192, 0x11), (8193, 0x22), (8194, 0x33), (8195, 0x44), (8196, 0x55), (8197, 0x66), (8198, 0x77), (8199, 0x88), (8200, 0x99), (8201, 0xaa), (8202, 0xbb), (8203, 0xcc), (8204, 0xdd), (8205, 0xee), (8206, 0xff), (8207, 0x80)])
    0x1006 0x0 [(40, 0xffffffff80ffeedd)] [] (none) = true := by decide

/-- T291: `p48.lw x40, 0(x33), ew=32, svlen=2` -/
theorem test_step_p48_lw_T291 : ends (run 48 0xa403189f 0x0 [(33, 0x2ffc), (40, 0)] [(12284, 0x55), (12285, 0x55), (12286, 0x55), (12287, 0x55)])
    0x1000 0x5000000 [(40, 0x55555555)] [] (some ⟨.loadAccessFault, 0x3000#64⟩) = true := by decide

/-- T257: `p48.ld x40, 8(x33)` -/
theorem test_step_p48_ld_T257 : ends (run 48 0x80b403001f 0x0 [(33, 0x2000)] [(8192, 0x11), (8193, 0x22), (8194, 0x33), (8195, 0x44), (8196, 0x55), (8197, 0x66), (8198, 0x77), (8199, 0x88), (8200, 0x99), (8201, 0xaa), (8202, 0xbb), (8203, 0xcc), (8204, 0xdd), (8205, 0xee), (8206, 0xff), (8207, 0x80)])
    0x1006 0x0 [(40, 0x80ffeeddccbbaa99)] [] (none) = true := by decide

/-- T258: `p48.lbu x40, 15(x33)` -/
theorem test_step_p48_lbu_T258 : ends (run 48 0xf0c403001f 0x0 [(33, 0x2000)] [(8192, 0x11), (8193, 0x22), (8194, 0x33), (8195, 0x44), (8196, 0x55), (8197, 0x66), (8198, 0x77), (8199, 0x88), (8200, 0x99), (8201, 0xaa), (8202, 0xbb), (8203, 0xcc), (8204, 0xdd), (8205, 0xee), (8206, 0xff), (8207, 0x80)])
    0x1006 0x0 [(40, 0x80)] [] (none) = true := by decide

/-- T259: `p48.lhu x40, 14(x33)` -/
theorem test_step_p48_lhu_T259 : ends (run 48 0xe0d403001f 0x0 [(33, 0x2000)] [(8192, 0x11), (8193, 0x22), (8194, 0x33), (8195, 0x44), (8196, 0x55), (8197, 0x66), (8198, 0x77), (8199, 0x88), (8200, 0x99), (8201, 0xaa), (8202, 0xbb), (8203, 0xcc), (8204, 0xdd), (8205, 0xee), (8206, 0xff), (8207, 0x80)])
    0x1006 0x0 [(40, 0x80ff)] [] (none) = true := by decide

/-- T260: `p48.lwu x40, 12(x33)` -/
theorem test_step_p48_lwu_T260 : ends (run 48 0xc0e403001f 0x0 [(33, 0x2000)] [(8192, 0x11), (8193, 0x22), (8194, 0x33), (8195, 0x44), (8196, 0x55), (8197, 0x66), (8198, 0x77), (8199, 0x88), (8200, 0x99), (8201, 0xaa), (8202, 0xbb), (8203, 0xcc), (8204, 0xdd), (8205, 0xee), (8206, 0xff), (8207, 0x80)])
    0x1006 0x0 [(40, 0x80ffeedd)] [] (none) = true := by decide

/-- T261: `p48.sb x63, 8(x33)` -/
theorem test_step_p48_sb_T261 : ends (run 48 0x1f08421801f 0x0 [(33, 0x2000), (63, 0x102030405060708)] [])
    0x1006 0x0 [] [(8200, 8)] (none) = true := by decide

/-- T262: `p48.sh x63, 8(x33)` -/
theorem test_step_p48_sh_T262 : ends (run 48 0x1f09421801f 0x0 [(33, 0x2000), (63, 0x102030405060708)] [])
    0x1006 0x0 [] [(8200, 8), (8201, 7)] (none) = true := by decide

/-- T263: `p48.sw x63, 8(x33)` -/
theorem test_step_p48_sw_T263 : ends (run 48 0x1f0a421801f 0x0 [(33, 0x2000), (63, 0x102030405060708)] [])
    0x1006 0x0 [] [(8200, 8), (8201, 7), (8202, 6), (8203, 5)] (none) = true := by decide

/-- T264: `p48.sd x63, 8(x33)` -/
theorem test_step_p48_sd_T264 : ends (run 48 0x1f0b421801f 0x0 [(33, 0x2000), (63, 0x102030405060708)] [])
    0x1006 0x0 [] [(8200, 8), (8201, 7), (8202, 6), (8203, 5), (8204, 4), (8205, 3), (8206, 2), (8207, 1)] (none) = true := by decide

/-- T241: `p64.lui x40.v, 0xFFFFF, ew=8, mvlvl=4` -/
theorem test_step_p64_lui_T241 : ends (run 64 0x806fffff436483f 0x0 [(40, 0xeeeeeeeeeeeeeeee)] [])
    0x1008 0x104 [(40, 0xeeeeeeee00000000)] [] (none) = true := by decide

/-- T244: `p64.auipc x40.v, 0x10, ew=32, mvlvl=2` -/
theorem test_step_p64_auipc_T244 : ends (run 64 0x80200010416583f 0x0 [(40, 0xeeeeeeeeeeeeeeee)] [])
    0x1008 0x82 [(40, 0x1100000011000)] [] (none) = true := by decide

/-- T295: `p64.addi x0, x0, 0, mvlvl=4` -/
theorem test_step_p64_addi_T295 : ends (run 64 0x80600000010003f 0x0 [] [])
    0x1008 0x104 [] [] (none) = true := by decide

/-- T222: `p64.slti x40.v, x20.v, 2, ew=8, mvlvl=4` -/
theorem test_step_p64_slti_T222 : ends (run 64 0x806002a2412683f 0x0 [(40, 0), (20, 0xff7f8001)] [])
    0x1008 0x104 [(40, 1)] [] (none) = true := by decide

/-- T224: `p64.sltiu x40.v, x20.v, -1, ew=8, mvlvl=4` -/
theorem test_step_p64_sltiu_T224 : ends (run 64 0x806fffa3412683f 0x0 [(40, 0), (20, 0xff7f8001)] [])
    0x1008 0x104 [(40, 0x1010101)] [] (none) = true := by decide

/-- T219: `p64.xori x40.v, x20.v, -1, ew=8, mvlvl=8` -/
theorem test_step_p64_xori_T219 : ends (run 64 0x80efffa4412683f 0x0 [(40, 0), (20, 0x80ff7f0102030405)] [])
    0x1008 0x208 [(40, 0x7f0080fefdfcfbfa)] [] (none) = true := by decide

/-- T220: `p64.ori x40.v, x20.v, -2048, ew=32, mvlvl=2` -/
theorem test_step_p64_ori_T220 : ends (run 64 0x802800a6412783f 0x0 [(40, 0), (20, 0x100000002)] [])
    0x1008 0x82 [(40, 0xfffff801fffff802)] [] (none) = true := by decide

/-- T221: `p64.andi x40.v, x20.v, 255, ew=16, mvlvl=4` -/
theorem test_step_p64_andi_T221 : ends (run 64 0x8060ffa7412703f 0x0 [(40, 0), (20, 0xffff123456789abc)] [])
    0x1008 0x104 [(40, 0xff0034007800bc)] [] (none) = true := by decide

/-- T226: `p64.slli x40.v, x20.v, 7, ew=8, mvlvl=8` -/
theorem test_step_p64_slli_T226 : ends (run 64 0x80e007a1412683f 0x0 [(40, 0), (20, 0x101010101010101)] [])
    0x1008 0x208 [(40, 0x8080808080808080)] [] (none) = true := by decide

/-- T229: `p64.srli x40.v, x20.v, 7, ew=8, mvlvl=8` -/
theorem test_step_p64_srli_T229 : ends (run 64 0x80e007a5412683f 0x0 [(40, 0), (20, 0x8080808080808080)] [])
    0x1008 0x208 [(40, 0x101010101010101)] [] (none) = true := by decide

/-- T230: `p64.srai x40.v, x20.v, 7, ew=8, mvlvl=8` -/
theorem test_step_p64_srai_T230 : ends (run 64 0x80e407a5412683f 0x0 [(40, 0), (20, 0x8080808080808080)] [])
    0x1008 0x208 [(40, 0x101010101010101)] [] (none) = true := by decide

/-- T232: `p64.addiw x40.v, x20.v, 1, ew=8, mvlvl=4` -/
theorem test_step_p64_addiw_T232 : ends (run 64 0x806001a041a683f 0x0 [(40, 0), (20, 0x7f80ff00)] [])
    0x1008 0x104 [(40, 0x80810001)] [] (none) = true := by decide

/-- T234: `p64.slliw x40.v, x20.v, 3, ew=8, mvlvl=8` -/
theorem test_step_p64_slliw_T234 : ends (run 64 0x80e003a141a683f 0x0 [(40, 0), (20, 0x101010101010101)] [])
    0x1008 0x208 [(40, 0x808080808080808)] [] (none) = true := by decide

/-- T236: `p64.srliw x40.v, x20.v, 1, ew=8, mvlvl=4` -/
theorem test_step_p64_srliw_T236 : ends (run 64 0x806001a541a683f 0x0 [(40, 0), (20, 0x7f80ff00)] [])
    0x1008 0x104 [(40, 0x3fc0ff00)] [] (none) = true := by decide

/-- T238: `p64.sraiw x40.v, x20.v, 1, ew=8, mvlvl=4` -/
theorem test_step_p64_sraiw_T238 : ends (run 64 0x806401a541a683f 0x0 [(40, 0), (20, 0x7f80ff00)] [])
    0x1008 0x104 [(40, 0x3fc0ff00)] [] (none) = true := by decide

/-- T342: `p64.add x40, x127.v, x127.v, vd=s, mvlvl=4` -/
theorem test_step_p64_add_T342 : ends (run 64 0x680601ff8433e03f 0x0 [(127, 0x15)] [])
    0x1008 0x104 [(40, 0x2a)] [] (none) = true := by decide

/-- T198: `p64.sub x40.v, x20.v, x30.v, ew=8, mvlvl=8` -/
theorem test_step_p64_sub_T198 : ends (run 64 0x180e41ea0432683f 0x0 [(40, 0), (20, 0x80ff7f0102030405), (30, 0x606060606060606)] [])
    0x1008 0x208 [(40, 0x7af979fbfcfdfeff)] [] (none) = true := by decide

/-- T204: `p64.sll x40.v, x20.v, x30.v, ew=8, mvlvl=8` -/
theorem test_step_p64_sll_T204 : ends (run 64 0x180e01ea1432683f 0x0 [(40, 0), (20, 0x8040201008040201), (30, 0x807060504030201)] [])
    0x1008 0x208 [(40, 0x80200802)] [] (none) = true := by decide

/-- T207: `p64.slt x40.v, x20.v, x30.v, ew=8, mvlvl=4` -/
theorem test_step_p64_slt_T207 : ends (run 64 0x180601ea2432683f 0x0 [(40, 0), (20, 0xff7f8001), (30, 0x1800102)] [])
    0x1008 0x104 [(40, 0x10001)] [] (none) = true := by decide

/-- T208: `p64.sltu x40.v, x20.v, x30.v, ew=8, mvlvl=4` -/
theorem test_step_p64_sltu_T208 : ends (run 64 0x180601ea3432683f 0x0 [(40, 0), (20, 0xff7f8001), (30, 0x1800102)] [])
    0x1008 0x104 [(40, 0x10001)] [] (none) = true := by decide

/-- T201: `p64.xor x40.v, x20.v, x30, ew=8, mvlvl=8` -/
theorem test_step_p64_xor_T201 : ends (run 64 0x180e01ea4432283f 0x0 [(40, 0), (20, 0x80ff7f0102030405), (30, 0xff)] [])
    0x1008 0x208 [(40, 0x7f0080fefdfcfbfa)] [] (none) = true := by decide

/-- T205: `p64.srl x40.v, x20.v, x30.v, ew=8, mvlvl=8` -/
theorem test_step_p64_srl_T205 : ends (run 64 0x180e01ea5432683f 0x0 [(40, 0), (20, 0x8080808080808080), (30, 0x807060504030201)] [])
    0x1008 0x208 [(40, 0x1020408102040)] [] (none) = true := by decide

/-- T206: `p64.sra x40.v, x20.v, x30.v, ew=8, mvlvl=8` -/
theorem test_step_p64_sra_T206 : ends (run 64 0x180e41ea5432683f 0x0 [(40, 0), (20, 0x8080808080808080), (30, 0x807060504030201)] [])
    0x1008 0x208 [(40, 0x1020408102040)] [] (none) = true := by decide

/-- T203: `p64.or x40.v, x20.v, x30, ew=32, mvlvl=2` -/
theorem test_step_p64_or_T203 : ends (run 64 0x180201ea6432383f 0x0 [(40, 0), (20, 0x100000002), (30, 0x80000000)] [])
    0x1008 0x82 [(40, 0x8000000180000002)] [] (none) = true := by decide

/-- T202: `p64.and x40.v, x20.v, x30, ew=16, mvlvl=4` -/
theorem test_step_p64_and_T202 : ends (run 64 0x180601ea7432303f 0x0 [(40, 0), (20, 0xffff800000010002), (30, 0xff)] [])
    0x1008 0x104 [(40, 0xff000000010002)] [] (none) = true := by decide

/-- T210: `p64.addw x40.v, x20.v, x30.v, ew=8, mvlvl=8` -/
theorem test_step_p64_addw_T210 : ends (run 64 0x180e01ea043a683f 0x0 [(40, 0), (20, 0x80ff7f0102030405), (30, 0x101010101010101)] [])
    0x1008 0x208 [(40, 0x8100800203040506)] [] (none) = true := by decide

/-- T211: `p64.subw x40.v, x20.v, x30.v, ew=16, mvlvl=4` -/
theorem test_step_p64_subw_T211 : ends (run 64 0x180641ea043a703f 0x0 [(40, 0), (20, 0x800000010000), (30, 0x1000100010001)] [])
    0x1008 0x104 [(40, 0xffff7fff0000ffff)] [] (none) = true := by decide

/-- T212: `p64.sllw x40.v, x20.v, x30.v, ew=8, mvlvl=8` -/
theorem test_step_p64_sllw_T212 : ends (run 64 0x180e01ea143a683f 0x0 [(40, 0), (20, 0x8040201008040201), (30, 0x807060504030201)] [])
    0x1008 0x208 [(40, 0x80200802)] [] (none) = true := by decide

/-- T214: `p64.srlw x40.v, x20.v, x30.v, ew=8, mvlvl=4` -/
theorem test_step_p64_srlw_T214 : ends (run 64 0x180601ea543a683f 0x0 [(40, 0), (20, 0x80808080), (30, 0x18190001)] [])
    0x1008 0x104 [(40, 0xff7f80c0)] [] (none) = true := by decide

/-- T213: `p64.sraw x40.v, x20.v, x30.v, ew=8, mvlvl=8` -/
theorem test_step_p64_sraw_T213 : ends (run 64 0x180e41ea543a683f 0x0 [(40, 0), (20, 0x80808080807f7f40), (30, 0x707010101070100)] [])
    0x1008 0x208 [(40, 0xffffc0c0c0003f40)] [] (none) = true := by decide

/-- T275: `p64.lb x40.v, 0(x5), ew=8, mvlvl=8` -/
theorem test_step_p64_lb_T275 : ends (run 64 0x80e00028402483f 0x0 [(5, 0x2008)] [(8192, 0x11), (8193, 0x22), (8194, 0x33), (8195, 0x44), (8196, 0x55), (8197, 0x66), (8198, 0x77), (8199, 0x88), (8200, 0x99), (8201, 0xaa), (8202, 0xbb), (8203, 0xcc), (8204, 0xdd), (8205, 0xee), (8206, 0xff), (8207, 0x80)])
    0x1008 0x208 [(40, 0x80ffeeddccbbaa99)] [] (none) = true := by decide

/-- T279: `p64.lh x40.v, 0(x5), mvlvl=2` -/
theorem test_step_p64_lh_T279 : ends (run 64 0x80200029402403f 0x0 [(5, 0x200c)] [(8192, 0x11), (8193, 0x22), (8194, 0x33), (8195, 0x44), (8196, 0x55), (8197, 0x66), (8198, 0x77), (8199, 0x88), (8200, 0x99), (8201, 0xaa), (8202, 0xbb), (8203, 0xcc), (8204, 0xdd), (8205, 0xee), (8206, 0xff), (8207, 0x80)])
    0x1008 0x82 [(40, 0xffffffffffffeedd), (41, 0xffffffffffff80ff)] [] (none) = true := by decide

/-- T266: `p64.lw x40.v, 0(x5), ew=32, mvlvl=4` -/
theorem test_step_p64_lw_T266 : ends (run 64 0x8060002a402583f 0x0 [(5, 0x2000)] [(8192, 0x11), (8193, 0x22), (8194, 0x33), (8195, 0x44), (8196, 0x55), (8197, 0x66), (8198, 0x77), (8199, 0x88), (8200, 0x99), (8201, 0xaa), (8202, 0xbb), (8203, 0xcc), (8204, 0xdd), (8205, 0xee), (8206, 0xff), (8207, 0x80)])
    0x1008 0x104 [(40, 0x8877665544332211), (41, 0x80ffeeddccbbaa99)] [] (none) = true := by decide

/-- T273: `p64.ld x8.v, 0(x2), mvlvl=2` -/
theorem test_step_p64_ld_T273 : ends (run 64 0x80200013400403f 0x0 [(2, 0x2000)] [(8192, 0x11), (8193, 0x22), (8194, 0x33), (8195, 0x44), (8196, 0x55), (8197, 0x66), (8198, 0x77), (8199, 0x88), (8200, 0x99), (8201, 0xaa), (8202, 0xbb), (8203, 0xcc), (8204, 0xdd), (8205, 0xee), (8206, 0xff), (8207, 0x80)])
    0x1008 0x82 [(8, 0x8877665544332211), (9, 0x80ffeeddccbbaa99)] [] (none) = true := by decide

/-- T277: `p64.lbu x40.v, 0(x5), ew=16, mvlvl=4` -/
theorem test_step_p64_lbu_T277 : ends (run 64 0x8060002c402503f 0x0 [(5, 0x200c)] [(8192, 0x11), (8193, 0x22), (8194, 0x33), (8195, 0x44), (8196, 0x55), (8197, 0x66), (8198, 0x77), (8199, 0x88), (8200, 0x99), (8201, 0xaa), (8202, 0xbb), (8203, 0xcc), (8204, 0xdd), (8205, 0xee), (8206, 0xff), (8207, 0x80)])
    0x1008 0x104 [(40, 0x8000ff00ee00dd)] [] (none) = true := by decide

/-- T281: `p64.sb x40.v, 0(x5), mvlvl=2` -/
theorem test_step_p64_sb_T281 : ends (run 64 0x80200828020c03f 0x0 [(5, 0x2000), (40, 0x1234), (41, 0x5678)] [])
    0x1008 0x82 [] [(8192, 0x34), (8193, 0x78)] (none) = true := by decide

/-- T272: `p64.sw x40, 0(x5), ew=32, mvlvl=4` -/
theorem test_step_p64_sw_T272 : ends (run 64 0x8060082a020983f 0x0 [(5, 0x2000), (40, 0x12345678)] [])
    0x1008 0x104 [] [(8192, 0x78), (8193, 0x56), (8194, 0x34), (8195, 0x12)] (none) = true := by decide

/-- T280: `p64.sd x40.v, 0(x5), ew=8, mvlvl=2` -/
theorem test_step_p64_sd_T280 : ends (run 64 0x8020082b020c83f 0x0 [(5, 0x2000), (40, 0xbbaa)] [])
    0x1008 0x82 [] [(8192, 0xaa), (8193, 0), (8194, 0), (8195, 0), (8196, 0), (8197, 0), (8198, 0), (8199, 0), (8200, 0xbb), (8201, 0), (8202, 0), (8203, 0), (8204, 0), (8205, 0), (8206, 0), (8207, 0)] (none) = true := by decide

/-- T39: `prefixed flw (P48-LD, LOAD-FP; HAS_F = false)` -/
theorem test_step_p48_load_fp_T39 : ends (run 48 0x12084001f 0x0 [(2, 0x2000)] [])
    0x1000 0x0 [] [] (some ⟨.illegalInstruction, 0x12084001F#64⟩) = true := by decide

/-- T40: `prefixed fadd.s f1, f2, f3 (P48-FR; HAS_F = false)` -/
theorem test_step_p48_op_fp_T40 : ends (run 48 0x3100d0001f 0x0 [] [])
    0x1000 0x0 [] [] (some ⟨.illegalInstruction, 0x3100D0001F#64⟩) = true := by decide

/-! ### Floating point: the specified hardware has none (R280) -/

/-- The same state on a platform with `HAS_F` and FLEN = 64. -/
def withF (s : State) : State := { s with platform := { s.platform with hasF := true } }

/-- T21 of 95_test_vectors.md: an unprefixed floating-point load is illegal. -/
theorem test_step_flw_T21 : ends (run 32 0x12087 0 [] []) 0x1000 0 [] [] (some ⟨.illegalInstruction, 0x12087#64⟩) =
    true := by decide

/-- A scalar fld with `HAS_F`: R286. -/
theorem test_exec_fld : nextWith (exec (.p48LoadFp ⟨7#6, 1#6, false, false, .e64, .none, .subvl⟩ 3#3 0#12)
    (withF (start 0 [(1, 0x2000)] [(0x2000, 1), (0x2001, 2), (0x2002, 3), (0x2003, 4), (0x2004, 5), (0x2005, 6),
      (0x2006, 7), (0x2007, 8)])))
    (fun t => t.getF 7#7 == 0x0807060504030201#128 && t.pc == 0x1006#64) = true := by decide

/-- A scalar fsw with `HAS_F`: R286. -/
theorem test_exec_fsw : nextWith (exec (.p64StoreFp ⟨1#7, 7#7, false, false, .e64, .none, .subvl⟩ 2#3 0#12 .default)
    ((withF (start 0 [(1, 0x2000)] [])).setF 7#7 0xAABBCCDD11223344#128))
    (fun t => Memory.read t.mem 0x2000 == some 0x44#8 && Memory.read t.mem 0x2003 == some 0x11#8 &&
      Memory.read t.mem 0x2004 == none && t.pc == 0x1008#64) = true := by decide

/-- itype other than 00 on a floating-point load is illegal (R286). -/
theorem test_exec_fld_itype : nextWith (exec (.p48LoadFp ⟨7#6, 1#6, false, false, .e32, .none, .subvl⟩ 3#3 0#12)
    (withF State.reset)) (fun t => t.trap.isSome) = true := by decide

/-- A double add and a fused multiply-add complete with `HAS_F`, whatever their values (R284). -/
theorem test_exec_fadd : nextWith (exec (.p48OpFp ⟨3#6, 4#6, 5#6, false, false, .none, .subvl, 0#3, 1#2, 0#5⟩)
    (withF State.reset)) (fun t => t.trap.isNone && t.pc == 0x1006#64) = true := by decide
theorem test_exec_fmadd : nextWith (exec (.p64Madd ⟨3#7, 4#7, 5#7, 6#7, false, false, .none, .subvl, 0#3, 1#2⟩ .default)
    (withF State.reset)) (fun t => t.trap.isNone && t.pc == 0x1008#64) = true := by decide
theorem test_exec_fmsub : nextWith (exec (.p48Msub ⟨3#6, 4#6, 5#6, 6#6, false, false, .none, .subvl, 0#3, 0#2⟩)
    (withF State.reset)) (fun t => t.trap.isNone && t.pc == 0x1006#64) = true := by decide

/-- The start state of a step on a 32-bit word with `HAS_F`: x1 = 0x2000. -/
def startF (w : Nat) (mem : List (Nat × Nat)) : State := (withF (start 0 [(1, 0x2000)] mem)).withFetchWord 32 w

/-- An unprefixed flh with `HAS_F` reads 2 bytes and leaves the rest of its register (R281, R286, R285). -/
theorem test_step_flh : nextWith (step ((startF 0x9387 [(0x2000, 0x11), (0x2001, 0x22)]).setF 7#7 0xAABBCCDDEEFF#128))
    (fun t => t.getF 7#7 == 0xAABBCCDD2211#128 && t.pc == 0x1004#64 && t.trap.isNone) = true := by decide

/-- An unprefixed fsh with `HAS_F` writes 2 bytes (R281, R286). -/
theorem test_step_fsh : nextWith (step ((startF 0x709027 []).setF 7#7 0xAABB#128))
    (fun t => Memory.read t.mem 0x2000 == some 0xBB#8 && Memory.read t.mem 0x2001 == some 0xAA#8 &&
      Memory.read t.mem 0x2002 == none && t.pc == 0x1004#64) = true := by decide

/-- An unprefixed fadd.h and fmadd.s complete with `HAS_F` (R193, R281). -/
theorem test_step_fadd_h : nextWith (step (startF 0x45201D3 [])) (fun t => t.trap.isNone && t.pc == 0x1004#64) =
    true := by decide
theorem test_step_fmadd : nextWith (step (startF 0x305201C3 [])) (fun t => t.trap.isNone && t.pc == 0x1004#64) =
    true := by decide

/-- An unprefixed load of width 000 is illegal with `HAS_F` as well (R286). -/
theorem test_step_fp_width : nextWith (step (startF 0x8387 []))
    (fun t => t.trap == some ⟨.illegalInstruction, 0x8387#64⟩ && t.pc == 0x1000#64) = true := by decide

/-! ### The stops of the model -/

/-- A result that is this fault or this refusal. -/
def stops (r : Result) (f : Option Fault) (e : Option Refusal) : Bool :=
  match r with
  | .next _ => false
  | .fault x => f == some x
  | .refused x => e == some x

/-- A hart that has trapped makes no step (R347). -/
theorem test_stopped : stops (step (State.reset.takeTrap .breakpoint 0#64)) (some .stopped) none = true := by decide

/-- A fetch of a byte nothing has placed is a fault of the model (R381). -/
theorem test_fetch_unwritten : stops (step State.reset) (some (.unwrittenByte 0x1000)) none = true := by decide

/-- A fetch of a byte the program has stored to is refused (R62). -/
theorem test_fetch_stored :
    stops (step { State.reset.withFetchWord 32 0x00000013 with stored := [0x1001] }) none
      (some (.fetchOfStoredByte 0x1001)) = true := by decide

/-! ### States and operands that meet the hypotheses of the statements -/

/-- A result that is a next state. -/
theorem next_of {r : Result} (h : nextWith r (fun _ => true) = true) : ∃ t, r = .next t := by
  cases r with
  | next t => exact ⟨t, rfl⟩
  | fault f => cases h
  | refused f => cases h

/-- A next state with a decidable property. -/
theorem next_with {r : Result} {p : State → Bool} (h : nextWith r p = true) : ∃ t, r = .next t ∧ p t = true := by
  cases r with
  | next t => exact ⟨t, rfl, h⟩
  | fault f => cases h
  | refused f => cases h

/-- An answer that is not an early end. -/
theorem ok_of {ε α : Type} {r : Except ε α} (h : r.toOption.isSome = true) : ∃ t, r = .ok t := by
  cases r with
  | ok t => exact ⟨t, rfl⟩
  | error e => cases h

/-- An answer that is this one. -/
theorem ok_eq {ε α : Type} {r : Except ε α} {w : α} (h : r.toOption = some w) : r = .ok w := by
  cases r with
  | ok t => cases h; rfl
  | error e => cases h

/-- x1 = 0x2000 with sixteen bytes 0x11 there, x2 = 0x3000 (outside `MemMap`), x3 = 0x2001, x5 = -1, x9 = 1. -/
def sw : State :=
  start 0 [(1, 0x2000), (2, 0x3000), (3, 0x2001), (5, 0xFFFFFFFFFFFFFFFF), (9, 1)]
    ((List.range 16).map (fun k => (0x2000 + k, 0x11)))

theorem test_witness_X0Hardwired : elemReg xlen 0#7 7 8 = 0 ∧ (127#7 : Reg) ≠ 0#7 := by decide

theorem test_witness_ElementReadsAndWrites :
    (120#7 : Reg).toNat + 63 * 8 / 64 = 127 ∧ (0#7 : Reg).toNat + 7 * 8 / 64 = 0 ∧
      (127#7 : Reg).toNat + 1 * 64 / 64 = 128 := by decide

theorem test_witness_ElementReadBack :
    inFile xlen 120#7 63 8 = true ∧ inFile xlen 120#7 62 8 = true ∧ (120#7 : Reg) ≠ 0#7 := by decide

theorem test_witness_MemReadMeans :
    (0x2001#64).toNat % 2 ≠ 0 ∧
    ((0x3000#64).toNat % 1 = 0 ∧ ∃ k, k < 1 ∧ backed sw.platform ((0x3000#64).toNat + k) = false) ∧
    ((0x2008#64).toNat % 8 = 0 ∧ (∀ k, k < 8 → backed sw.platform ((0x2008#64).toNat + k) = true) ∧
      ∀ k, k < 8 → ∃ b, Memory.read sw.mem ((0x2008#64).toNat + k) = some b) :=
  ⟨by decide, ⟨by decide, 0, by decide, by decide⟩, by decide, by decide, fun k hk =>
    ⟨0x11#8, (by decide : ∀ k, k < 8 → Memory.read sw.mem ((0x2008#64).toNat + k) = some 0x11#8) k hk⟩⟩

theorem test_witness_MemWriteMeans :
    (0x2FFF#64).toNat % 4 ≠ 0 ∧
    ((0x0FF8#64).toNat % 8 = 0 ∧ ∃ k, k < 8 ∧ backed sw.platform ((0x0FF8#64).toNat + k) = false) ∧
    ((0x2FF8#64).toNat % 8 = 0 ∧ ∀ k, k < 8 → backed sw.platform ((0x2FF8#64).toNat + k) = true) :=
  ⟨by decide, ⟨by decide, 7, by decide, by decide⟩, by decide, by decide⟩

theorem test_witness_MemReadAfterWrite :
    (∃ t, memWrite sw 0x2FF8#64 8 0x1122#128 = .ok t) ∧
      ((0x2FF4#64).toNat + 4 ≤ (0x2FF8#64).toNat ∨ (0x2FF8#64).toNat + 8 ≤ (0x2FF4#64).toNat) :=
  ⟨ok_of (by decide), by decide⟩

theorem test_witness_BaseLoads :
    memRead sw (sw.getX (reg5 1#5) + (8#12).signExtend 64) 8 = .ok 0x1111111111111111#128 ∧
    memRead sw (sw.getX (reg5 1#5) + (15#12).signExtend 64) 1 = .ok 0x11#128 ∧
    memRead sw (sw.getX (reg5 2#5) + (0#12).signExtend 64) 1 = .error (.raise .loadAccessFault 0x3000#64) ∧
    memRead sw (sw.getX (reg5 3#5) + (0#12).signExtend 64) 2 = .error (.raise .loadAddressMisaligned 0x2001#64) ∧
    (0x2001#64).getLsbD 0 = true ∧ (0x2002#64).extractLsb' 0 2 ≠ 0#2 ∧ (0x2004#64).extractLsb' 0 3 ≠ 0#3 := by
  decide

theorem test_witness_BaseStores :
    ((sw.getX (reg5 1#5) + (0#12).signExtend 64).toNat % 8 = 0 ∧
      ∀ k, k < 8 → backed sw.platform ((sw.getX (reg5 1#5) + (0#12).signExtend 64).toNat + k) = true) ∧
    (sw.getX (reg5 3#5) + (0#12).signExtend 64).toNat % 2 ≠ 0 ∧
    ((sw.getX (reg5 2#5) + (0#12).signExtend 64).toNat % 1 = 0 ∧
      ∃ k, k < 1 ∧ backed sw.platform ((sw.getX (reg5 2#5) + (0#12).signExtend 64).toNat + k) = false) :=
  ⟨by decide, by decide, by decide, 0, by decide, by decide⟩

theorem test_witness_BaseBranches :
    (sw.getX (reg5 1#5) = sw.getX (reg5 1#5) ∧ sw.getX (reg5 1#5) ≠ sw.getX (reg5 2#5)) ∧
    ((sw.getX (reg5 5#5)).toInt < (sw.getX (reg5 0#5)).toInt ∧
      ¬(sw.getX (reg5 0#5)).toInt < (sw.getX (reg5 5#5)).toInt) ∧
    ((sw.getX (reg5 0#5)).toNat < (sw.getX (reg5 5#5)).toNat ∧
      ¬(sw.getX (reg5 5#5)).toNat < (sw.getX (reg5 0#5)).toNat) := by decide

theorem test_witness_CsrInstructions :
    (0x800#12 = sw.platform.csrSvpstate ∧
      ∀ b, b < 64 → Unsupported sw.platform b → (0x0FFFFFFF#64).getLsbD b = false) ∧
    (0x800#12 = sw.platform.csrSvpstate ∧ ∃ b, b < 64 ∧ Unsupported sw.platform b ∧ (0x10000000#64).getLsbD b = true) ∧
    0x801#12 ≠ sw.platform.csrSvpstate :=
  ⟨⟨by decide, by unfold Unsupported; decide⟩, ⟨by decide, 28, by decide, .inl (by decide), by decide⟩, by decide⟩

theorem test_witness_PrefixedRegisterElement :
    ((⟨1#6, 2#6, 3#6, true, false, .e8, .x9, .subvl⟩ : ROps 6).svlen = .subvl) ∧
    PredActive sw .x9 0 = true ∧ PredActive sw .notX9 0 = false := by decide

theorem test_witness_PrefixedImmediateElement :
    ((⟨1#7, 2#7, true, false, .e16, .x9Off, .subvl⟩ : IOps 7).svlen = .subvl) ∧
    bothActive sw .x9Off = true ∧ bothActive sw .x9X10 = false := by decide

theorem test_witness_PrefixedUpperElement :
    ((⟨1#7, true, .e32, .x9, .subvl⟩ : UOps 7).svlen = .subvl) ∧
    PredActive sw .x9 0 = true ∧ PredActive sw .notX9 0 = false := by decide

theorem test_witness_PrefixedLoadElement :
    bothActive sw .none = true ∧ bothActive sw .notX9Off = false ∧
    memRead sw (sw.getX (operand48 1#6 false).reg + (0#12).signExtend 64) 8 = .ok 0x1111111111111111#128 ∧
    memRead sw (sw.getX (operand48 2#6 false).reg + (0#12).signExtend 64) 8 =
      .error (.raise .loadAccessFault 0x3000#64) := by decide

theorem test_witness_PrefixedStoreElement :
    bothActive sw .none = true ∧ bothActive sw .notX9Off = false ∧
    ((sw.getX 1#7 + (0#12).signExtend 64).toNat % 8 = 0 ∧
      ∀ k, k < 8 → backed sw.platform ((sw.getX 1#7 + (0#12).signExtend 64).toNat + k) = true) ∧
    (sw.getX 3#7 + (0#12).signExtend 64).toNat % 8 ≠ 0 ∧
    ((sw.getX 2#7 + (0#12).signExtend 64).toNat % 8 = 0 ∧
      ∃ k, k < 8 ∧ backed sw.platform ((sw.getX 2#7 + (0#12).signExtend 64).toNat + k) = false) :=
  ⟨by decide, by decide, by decide, by decide, by decide, 0, by decide, by decide⟩

/-- A P64-R instruction with 32 elements that end at x127. -/
def vecR : Instr := .p64Add ⟨96#7, 64#7, 32#7, true, true, .e64, .none, .subvl⟩ true (.mvlVl 5#5 31#5)

/-- Its form. -/
def vecForm : Form := form64 vecR .subvl (.mvlVl 5#5 31#5)

theorem test_witness_PrefixedRegisterCompletes :
    Supported sw.platform vecForm.svlen vecForm.vltyp ∧
    spanInFile (operand64 96#7 true) (vecForm.vle (beginPrefixed vecForm sw)) vecForm.svl 64 ∧
    spanInFile (operand64 64#7 true) (vecForm.vle (beginPrefixed vecForm sw)) vecForm.svl 64 ∧
    spanInFile (operand64 32#7 true) (vecForm.vle (beginPrefixed vecForm sw)) vecForm.svl 64 :=
  have hv : vecForm.vle (beginPrefixed vecForm sw) = 32 := by decide
  have hs : vecForm.svl = 1 := by decide
  ⟨by unfold Supported; decide, by rw [hv, hs]; exact fun i sub hi hs => (by decide : ∀ i, i < 32 → ∀ sub, sub < 1 →
      inFile xlen (operand64 96#7 true).reg (flatIndex (operand64 96#7 true).vec 1 i sub) 64 = true) i hi sub hs,
   by rw [hv, hs]; exact fun i sub hi hs => (by decide : ∀ i, i < 32 → ∀ sub, sub < 1 →
      inFile xlen (operand64 64#7 true).reg (flatIndex (operand64 64#7 true).vec 1 i sub) 64 = true) i hi sub hs,
   by rw [hv, hs]; exact fun i sub hi hs => (by decide : ∀ i, i < 32 → ∀ sub, sub < 1 →
      inFile xlen (operand64 32#7 true).reg (flatIndex (operand64 32#7 true).vec 1 i sub) 64 = true) i hi sub hs⟩

/-- A P48-I instruction with a sub-vector of four that ends at x127. -/
def subI : Instr := .p48Addi ⟨63#6, 1#6, true, false, .e16, .none, .four⟩ 1#12

theorem test_witness_PrefixedImmediateCompletes :
    Supported sw.platform .four .default ∧
    (∀ i, i < (form48 subI .four).vle (beginPrefixed (form48 subI .four) sw) → ∀ sub, sub < (form48 subI .four).svl →
      inFile xlen (operand48 63#6 true).reg (flatIndex (operand48 63#6 true).vec (form48 subI .four).svl i sub) 16 =
        true ∧
      inFile xlen (operand48 1#6 false).reg (flatIndex (operand48 1#6 false).vec (form48 subI .four).svl i sub) 16 =
        true) := by unfold Supported; decide

theorem test_witness_VectorRegisterElements :
    (VLtyp.mvlVl 5#5 31#5 ≠ .default ∧ (96#7 : Reg) ≠ 0#7) ∧ Supported sw.platform .subvl (.mvlVl 5#5 31#5) ∧
    sw.srcoffs = 0#6 ∧ (applyVLtyp (.mvlVl 5#5 31#5) sw).vl.toNat = 32 ∧ Svlen.subvl.code.toNat + 1 = 1 ∧
    (∀ i, i < 32 → ∀ sub, sub < 1 → inFile xlen 96#7 (flatIndex true 1 i sub) 64 = true) ∧
    (PredActive (applyVLtyp (.mvlVl 5#5 31#5) sw) .x9 0 = true ∧
      PredActive (applyVLtyp (.mvlVl 5#5 31#5) sw) .x9 31 = false) ∧
    ∀ n, inSpan (operand64 96#7 true) 32 1 64 n →
      ¬inSpan (operand64 64#7 true) 32 1 64 n ∧ ¬inSpan (operand64 32#7 true) 32 1 64 n := by
  refine ⟨by decide, by unfold Supported; decide, by decide, by decide, by decide, by decide, by decide, ?_⟩
  rintro n ⟨i, sub, hi, hs, h⟩
  constructor <;> rintro ⟨i', sub', hi', hs', h'⟩ <;> simp [elemReg, flatIndex, operand64] at h h' <;> omega

theorem test_witness_SingleLoopPositions :
    vecForm.firstSrc sw = 0 ∧ vecForm.firstSub sw = 0 ∧ vecForm.ctxVL = true := by decide

theorem test_witness_TwinLoopPositions :
    vecForm.firstSrc sw = 0 ∧ vecForm.firstDest sw = 0 ∧ vecForm.firstSub sw = 0 ∧ vecForm.ctxVL = true := by decide

/-- The form of an instruction whose second sub-element is past x127. -/
def pastForm : Form := ⟨7#64, 8, .two, .mvlVl 0#5 1#5⟩

theorem test_witness_RaiseKeepsPosition :
    (∃ s' e, runSingle pastForm .none true
      (elementU pastForm 64 0#64 ⟨127#7, true⟩) (beginPrefixed pastForm sw) = .error (s', e)) ∧
    (∃ s' e, runTwin pastForm .none false true
      (elementI pastForm 64 .unsigned id ⟨127#7, true⟩ ⟨1#7, false⟩) (beginPrefixed pastForm sw) = .error (s', e)) :=
  ⟨⟨_, _, rfl⟩, ⟨_, _, rfl⟩⟩

theorem test_witness_RegisterFileEnd :
    sw.platform.svlenSupported = true ∧ sw.dsvoffs = 0#2 ∧ Svlen.two ≠ .subvl ∧
    nextWith (exec (.p64Addi ⟨127#7, 127#7, false, true, .e64, .none, .four⟩ 3#12 .default) sw)
      (fun t => t.getX 127#7 == 3#64 && t.trap.isSome && t.dsvoffs == 1#2 && t.subvl == 0b11#2) = true := by decide

theorem test_witness_ElementRangeComesFirst :
    127 < elemReg xlen 127#7 (flatIndex true 2 0 1) 64 ∧ 127 < elemReg xlen 127#7 (flatIndex false 2 5 1) 64 ∧
    127 < elemReg xlen 127#7 1 64 := by decide

/-- `LoopFromZero` of `sw` with no predicate and a VLtyp that both options allow. -/
theorem sw_loop (sv : Svlen) (v : VLtyp) (h : ∀ d, v ≠ .vlReg d 0#5) : LoopFromZero sw sv v .none :=
  ⟨⟨fun _ => by decide, fun _ => by decide, h⟩, fun _ => by decide, fun _ => by decide, fun _ _ => ⟨rfl, rfl⟩⟩

/-- x96 and x97 hold the addresses 0x2008 and 0x2000, x126 and x127 the same. -/
def swGather : State :=
  (((sw.setX 96#7 0x2008#64).setX 97#7 0x2000#64).setX 126#7 0x2008#64).setX 127#7 0x2000#64

/-- A unit-stride load whose last element is x127, and a gather from x126 and x127. -/
theorem test_witness_VectorLoadElements :
    LoopFromZero sw .subvl (.mvlVl 5#5 1#5) .none ∧
    (positions (applyVLtyp (.mvlVl 5#5 1#5) sw) (.mvlVl 5#5 1#5) true = 2 ∧
      positions (applyVLtyp (.mvlVl 5#5 1#5) sw) (.mvlVl 5#5 1#5) false = 1) ∧
    (∀ k, k < 2 * (Svlen.subvl.code.toNat + 1) → 126 + k * 64 / 64 ≤ 127 ∧ 1 ≠ 126 + k * 64 / 64) ∧
    (∀ i, i < 2 → ∀ sub, sub < Svlen.subvl.code.toNat + 1 →
      memRead sw (elementAddress (applyVLtyp (.mvlVl 5#5 1#5) sw) ⟨1#7, false⟩ 0#64 1 8 i sub) 8 =
        .ok 0x1111111111111111#128) ∧
    ((126#7 : Reg).toNat + 2 ≤ 128 ∧
      elementAddress (applyVLtyp (.mvlVl 5#5 1#5) swGather) ⟨126#7, true⟩ 0#64 1 8 1 0 = 0x2000#64 ∧
      ∀ i, i < 2 → memRead swGather
        (elementAddress (applyVLtyp (.mvlVl 5#5 1#5) swGather) ⟨126#7, true⟩ 0#64 1 8 i 0) 8 =
          .ok 0x1111111111111111#128) :=
  ⟨sw_loop _ _ (fun _ h => by cases h), by decide, by decide, by decide, by decide⟩

/-- A unit-stride store of x126 and x127, and a scatter at two different addresses, the lower one the last. -/
theorem test_witness_VectorStoreElements :
    LoopFromZero sw .subvl (.mvlVl 0#5 1#5) .none ∧
    positions (applyVLtyp (.mvlVl 0#5 1#5) sw) (.mvlVl 0#5 1#5) true = 2 ∧
    (∀ i, i < 2 → ∀ sub, sub < Svlen.subvl.code.toNat + 1 →
      (elementAddress (applyVLtyp (.mvlVl 0#5 1#5) sw) ⟨1#7, false⟩ 0xFF0#64 1 8 i sub).toNat % 8 = 0 ∧
      ∀ b, b < 8 → backed sw.platform
        ((elementAddress (applyVLtyp (.mvlVl 0#5 1#5) sw) ⟨1#7, false⟩ 0xFF0#64 1 8 i sub).toNat + b) = true) ∧
    (elementAddress (applyVLtyp (.mvlVl 0#5 1#5) swGather) ⟨126#7, true⟩ 0#64 1 8 0 0 = 0x2008#64 ∧
      elementAddress (applyVLtyp (.mvlVl 0#5 1#5) swGather) ⟨126#7, true⟩ 0#64 1 8 1 0 = 0x2000#64) :=
  ⟨sw_loop _ _ (fun _ h => by cases h), by decide, by decide, by decide⟩

/-- The hypotheses, and the boundary of each mode: the immediate clamped and not, a register at its largest, VL
truncated and not. -/
theorem test_witness_VLtypModes : ((31#5 ≠ 0#5 ∨ 0#5 ≠ 0#5) ∧ (1#5 : BitVec 5) ≠ 0#5) ∧
    ((applyVLtyp (.vlImm 7#5 31#5) (sw.setMaxvl 31#6)).vl = 31#6 ∧
      (applyVLtyp (.vlImm 7#5 31#5) (sw.setMaxvl 32#6)).vl = 32#6 ∧
      (applyVLtyp (.vlImm 7#5 31#5) (sw.setMaxvl 63#6)).getX 7#7 = 32#64 ∧
      (applyVLtyp (.vlImm 7#5 0#5) sw).vl = 0#6) ∧
    ((applyVLtyp (.vlReg 5#5 5#5) (sw.setMaxvl 63#6)).getX 5#7 = 63#64 ∧
      (applyVLtyp (.vlReg 7#5 9#5) (sw.setMaxvl 63#6)).vl = 1#6) ∧
    ((applyVLtyp (.mvlVl 0#5 31#5) sw).vl = 32#6 ∧ (applyVLtyp (.mvlVl 0#5 0#5) sw).maxvl = 1#6) ∧
    ((applyVLtyp (.mvl 7#5 31#5) (sw.setVl 33#6)).vl = 32#6 ∧
      (applyVLtyp (.mvl 7#5 31#5) (sw.setVl 32#6)).vl = 32#6) := by decide

theorem test_witness_VLtypFixesVL :
    (traitsOf vecR).loop ≠ .none ∧ (traitsOf vecR).float = false ∧
      Supported sw.platform (traitsOf vecR).svlen (traitsOf vecR).vltyp ∧ ∃ t, exec vecR sw = .next t :=
  ⟨by decide, by decide, by unfold Supported; decide, next_of (by decide)⟩

theorem test_witness_VLBoundKept :
    (traitsOf vecR).loop ≠ .none ∧ (sw.withSvpstate 0xFFF#32).vlBounded = true ∧
      ∃ t, exec vecR (sw.withSvpstate 0xFFF#32) = .next t :=
  ⟨by decide, by decide, next_of (by decide)⟩

/-- A P64 store that takes VL from x6 = 0. -/
def zeroVL : Instr := .p64Sd ⟨2#7, 127#7, false, true, .e64, .none, .subvl⟩ 0#12 (.vlReg 4#5 6#5)

theorem test_witness_VLZeroRunsNothing :
    (traitsOf zeroVL).float = false ∧ (traitsOf zeroVL).vltyp ≠ .default ∧
      Supported sw.platform (traitsOf zeroVL).svlen (traitsOf zeroVL).vltyp ∧
      (applyVLtyp (traitsOf zeroVL).vltyp sw).vl = 0#6 ∧
      nextWith (exec zeroVL (sw.withSvpstate 0x5FFF000#32)) (fun t => t.svpstate == 0x5000000#32) = true := by
  unfold Supported; decide

theorem test_witness_UnsupportedOptionsTrap :
    ((traitsOf vecR).loop ≠ .none ∧ (traitsOf vecR).vltyp ≠ .default ∧
      { Platform.sample with vltypSupported := false }.vltypSupported = false) ∧
    ((traitsOf subI).loop ≠ .none ∧ (traitsOf subI).svlen ≠ .subvl ∧
      { Platform.sample with svlenSupported := false }.svlenSupported = false) ∧
    ∃ dest, (traitsOf (.p64Addi ⟨1#7, 2#7, false, false, .e64, .none, .subvl⟩ 1#12 (.vlReg 3#5 0#5))).vltyp =
      .vlReg dest 0#5 := ⟨by decide, by decide, 3#5, by decide⟩

theorem test_witness_IndicesEndAtZero :
    (traitsOf vecR).loop ≠ .none ∧ sw.trap = none ∧ (∃ t, exec vecR sw = .next t ∧ t.trap.isNone = true) ∧
    (∃ t, exec subI sw = .next t ∧ t.trap.isNone = true) :=
  ⟨by decide, by decide, next_with (by decide), next_with (by decide)⟩

theorem test_witness_ScalarIgnoresSvpstate :
    (traitsOf (.add 1#5 2#5 3#5)).csr = false ∧ (traitsOf (.add 1#5 2#5 3#5)).vltyp = .default ∧
    (traitsOf (.p48Add ⟨1#6, 2#6, 3#6, true, true, .e8, .none, .subvl⟩)).svlen = .subvl := by decide

theorem test_witness_FloatIsIllegalWithoutF :
    State.reset.platform.hasF = false ∧ State.reset.trap = none ∧
    fetch (State.reset.withFetchWord 32 0x12087) = .ok (.w32 0x12087#32) ∧
    (0x12087#32).extractLsb' 0 7 ∈ [0b0000111#7, 0b0100111#7, 0b1000011#7, 0b1000111#7, 0b1001011#7, 0b1001111#7,
      0b1010011#7] := ⟨by decide, by decide, ok_eq (by decide), by decide⟩

theorem test_witness_FusedMultiplyAddElement :
    (withF sw).platform.hasF = true ∧ fmtWidth 0b01#2 ≤ (withF sw).platform.flen.bits ∧
    (withF sw).platform.flen.bits < fmtWidth 0b11#2 ∧
    PredActive (withF sw) .x9 0 = true ∧ PredActive (withF sw) .notX9 0 = false ∧
    Runs32 (startF 0x305201C3 []) 0x305201C3#32 ∧ (0x305201C3#32).extractLsb' 0 7 = 0b1000011#7 ∧
    (startF 0x305201C3 []).platform.hasF = true :=
  ⟨by decide, by decide, by decide, by decide, by decide, ⟨by decide, by decide, ok_eq (by decide)⟩, by decide,
    by decide⟩

theorem test_witness_FloatArithElement :
    opFpShape 1#2 0b11111#5 0#3 0#5 = none ∧
    opFpShape 1#2 0b00000#5 0#3 0#5 = some ⟨fpElem 1#2, fpElem 1#2, some (fpElem 1#2)⟩ ∧
    opFpShape 1#2 0b11000#5 0#3 2#5 = some ⟨intElem, fpElem 1#2, none⟩ ∧
    FpShape.fits ⟨fpElem 1#2, fpElem 1#2, some (fpElem 1#2)⟩ (withF sw).platform = true ∧
    FpShape.fits ⟨intElem, fpElem 1#2, none⟩ (withF sw).platform = true ∧
    (opFpShape 3#2 0b00000#5 0#3 0#5 = some ⟨fpElem 3#2, fpElem 3#2, some (fpElem 3#2)⟩ ∧
      FpShape.fits ⟨fpElem 3#2, fpElem 3#2, some (fpElem 3#2)⟩ (withF sw).platform = false) ∧
    Runs32 (startF 0x45201D3 []) 0x45201D3#32 ∧ (0x45201D3#32).extractLsb' 0 7 = 0b1010011#7 :=
  ⟨by decide, by decide, by decide, by decide, by decide, by decide, ⟨by decide, by decide, ok_eq (by decide)⟩,
    by decide⟩

/-- The same state on a platform with `HAS_F` and FLEN = 128. -/
def withQ (s : State) : State := { s with platform := { s.platform with hasF := true, flen := .quad } }

theorem test_witness_FloatLoadStoreElement :
    ((withF sw).platform.hasF = true ∧ 8 * 8 ≤ (withF sw).platform.flen.bits ∧
      (withF sw).platform.flen.bits < 8 * 16 ∧
      bothActive (withF sw) .none = true ∧ bothActive (withF sw) .notX9Off = false ∧
      memRead (withF sw) ((withF sw).getX 1#7 + (0#12).signExtend 64) 8 = .ok 0x1111111111111111#128 ∧
      memRead (withF sw) ((withF sw).getX 2#7 + (0#12).signExtend 64) 8 =
        .error (.raise .loadAccessFault 0x3000#64)) ∧
    ((withQ sw).platform.hasF = true ∧ 8 * 16 ≤ (withQ sw).platform.flen.bits ∧
      memRead (withQ sw) ((withQ sw).getX 1#7 + (0#12).signExtend 64) 16 =
        .ok 0x11111111111111111111111111111111#128 ∧
      memRead (withQ sw) ((withQ sw).getX 1#7 + (8#12).signExtend 64) 16 =
        .error (.raise .loadAddressMisaligned 0x2008#64) ∧
      (∀ k, k < 16 → backed (withQ sw).platform (((withQ sw).getX 1#7 + (0x7F0#12).signExtend 64).toNat + k) = true)) ∧
    Ew.e8 ≠ .e64 ∧ (0b000#3 : BitVec 3) ∉ [0b001#3, 0b010#3, 0b011#3, 0b100#3] ∧
    (Runs32 (startF 0x9387 []) 0x9387#32 ∧ (0x9387#32).extractLsb' 0 7 = 0b0000111#7 ∧
      (0x9387#32).extractLsb' 12 3 = 0b001#3) ∧
    (Runs32 (startF 0x709027 []) 0x709027#32 ∧ (0x709027#32).extractLsb' 0 7 = 0b0100111#7 ∧
      (0x709027#32).extractLsb' 12 3 = 0b001#3) :=
  ⟨by decide, by decide, by decide, by decide,
    ⟨⟨by decide, by decide, ok_eq (by decide)⟩, by decide, by decide⟩,
    ⟨by decide, by decide, ok_eq (by decide)⟩, by decide, by decide⟩

/-- A word at the pc of the reset state. -/
def atPc : State := State.reset.withFetchWord 48 0x0080A403001F

theorem test_witness_StepRunsDecoded :
    atPc.trap = none ∧ atPc.pc.getLsbD 0 = false ∧ fetch atPc = .ok (.w48 0x0080A403001F#48) ∧
    decode (.w48 0x0080A403001F#48) = .ok (.p48Lw ⟨40#6, 33#6, false, false, .e64, .none, .subvl⟩ 8#12) :=
  ⟨by decide, by decide, ok_eq (by decide), by decide⟩

theorem test_witness_StepRunsEncoded :
    Instr.wf (.p48Lw ⟨40#6, 33#6, false, false, .e64, .none, .subvl⟩ 8#12) = true ∧ atPc.trap = none ∧
    atPc.pc.getLsbD 0 = false ∧
    atPc.pc.toNat + (Instr.p48Lw ⟨40#6, 33#6, false, false, .e64, .none, .subvl⟩ 8#12).ilen ≤ 2 ^ 64 ∧
    Placed atPc atPc.pc.toNat (Instr.p48Lw ⟨40#6, 33#6, false, false, .e64, .none, .subvl⟩ 8#12).bytes := by
  unfold Placed; decide

/-- The end of `MemMap` holds the first parcels of an instruction, and the pc is at the first of them. -/
def atEnd (pc : Nat) (bytes : List (Nat × Nat)) : State := { start 0 [] bytes with pc := BitVec.ofNat 64 pc }

/-- The second parcel of a 32-bit, the third of a 48-bit and the fourth of a 64-bit instruction lie outside
`MemMap`, and the second of a 32-bit instruction lies at 2^64. -/
def at2 : State := atEnd 0x2FFE [(0x2FFE, 0x13), (0x2FFF, 0)]
def at3 : State := atEnd 0x2FFC [(0x2FFC, 0x1F), (0x2FFD, 0), (0x2FFE, 0x13), (0x2FFF, 0)]
def at4 : State := atEnd 0x2FFA [(0x2FFA, 0x3F), (0x2FFB, 0), (0x2FFC, 1), (0x2FFD, 0), (0x2FFE, 0x13), (0x2FFF, 0)]
def atTop : State := placeAtPc (State.reset.jump 0xFFFFFFFFFFFFFFFE#64) 0x13#64

theorem test_witness_FetchFaults :
    ((State.reset.jump 0x3000#64).trap = none ∧ (State.reset.jump 0x3000#64).pc.getLsbD 0 = false ∧
      backed (State.reset.jump 0x3000#64).platform (State.reset.jump 0x3000#64).pc.toNat = false ∧
      backed State.reset.platform (0xFFFFFFFFFFFFFFFE#64).toNat = false) ∧
    (at2.trap = none ∧ at2.pc.getLsbD 0 = false ∧ Placed at2 at2.pc.toNat [0x13#8, 0#8] ∧
      1 < parcelCount (0#8 ++ 0x13#8) ∧ at2.pc.toNat + 2 * 1 < 2 ^ 64 ∧
      backed at2.platform (at2.pc.toNat + 2 * 1) = false) ∧
    (at3.trap = none ∧ at3.pc.getLsbD 0 = false ∧ Placed at3 at3.pc.toNat [0x1F#8, 0#8, 0x13#8, 0#8] ∧
      2 < parcelCount (0#8 ++ 0x1F#8) ∧ backed at3.platform (at3.pc.toNat + 2 * 2) = false) ∧
    (at4.trap = none ∧ at4.pc.getLsbD 0 = false ∧ Placed at4 at4.pc.toNat [0x3F#8, 0#8, 1#8, 0#8, 0x13#8, 0#8] ∧
      3 < parcelCount (0#8 ++ 0x3F#8) ∧ backed at4.platform (at4.pc.toNat + 2 * 3) = false ∧
      nextWith (step at4) (fun t => t.trap == some ⟨.instructionAccessFault, 0x3000#64⟩) = true) ∧
    (atTop.trap = none ∧ atTop.pc.getLsbD 0 = false ∧ Placed atTop atTop.pc.toNat [0x13#8, 0#8] ∧
      atTop.pc.toNat + 2 * 1 = 2 ^ 64) := by
  unfold Placed; decide

theorem test_witness_IllegalWords :
    (Placed (State.reset.withFetchWord 16 0x0001) 0x1000 [1#8, 0#8] ∧ (1#8).extractLsb' 0 2 ≠ 0b11#2) ∧
    (Placed (State.reset.withFetchWord 16 0x00FF) 0x1000 [0xFF#8, 0#8] ∧
      (0xFF#8).extractLsb' 0 7 = 0b1111111#7) ∧
    (fetch (State.reset.withFetchWord 32 0x0000000B) = .ok (.w32 0xB#32) ∧ (∀ v, InstrWord.w32 0xB#32 = .w32 v →
      v.extractLsb' 0 7 ∉ [0b0000111#7, 0b0100111#7, 0b1000011#7, 0b1000111#7, 0b1001011#7, 0b1001111#7, 0b1010011#7]) ∧
      ∀ i, decode (.w32 0xB#32) ≠ .ok i) := by
  refine ⟨by unfold Placed; decide, by unfold Placed; decide, ok_eq (by decide),
    fun v hv => by cases hv; decide, fun i h => ?_⟩
  have e : (decode (.w32 0xB#32)).toOption = none := by decide
  rw [h] at e
  cases e

theorem test_witness_StoppedHart :
    (State.reset.takeTrap .breakpoint 0#64).trap = some ⟨.breakpoint, 0#64⟩ := by decide

theorem test_witness_ResetWellFormed : Platform.sample.resetPc.getLsbD 0 = false := by decide

theorem test_witness_StepKeepsWellFormed : (atPc.setX 33#7 0x0FF8#64).wf = true ∧
    ∃ t, step (atPc.setX 33#7 0x0FF8#64) = .next t :=
  ⟨by decide, next_of (by decide)⟩

theorem test_witness_DecodeEncode : vecR.wf = true ∧ decode (encode vecR) = .ok vecR := by decide

theorem test_witness_ClassFrames :
    (traitsOf vecR).stores = false ∧ (traitsOf vecR).float = false ∧ ∃ t, exec vecR sw = .next t :=
  ⟨by decide, by decide, next_of (by decide)⟩

theorem test_witness_StoresStayInMemMap :
    ∃ t, exec (.sd 1#5 2#5 0#12) sw = .next t ∧ (Memory.read t.mem 0x2000 != Memory.read sw.mem 0x2000) = true :=
  next_with (by decide)

theorem test_witness_StoresWriteNoRegister :
    (traitsOf zeroVL).stores = true ∧ ∃ t, exec zeroVL sw = .next t :=
  ⟨by decide, next_of (by decide)⟩

theorem test_witness_EncodeDecode :
    decode (.w64 0x0806001A0412603F#64) =
      .ok (.p64Addi ⟨40#7, 20#7, true, true, .e64, .none, .subvl⟩ 1#12 (.mvlVl 0#5 3#5)) := by decide

/-- Words of a major opcode that no pattern admits, for the clauses "decodes to no instruction". -/
theorem test_witness_BaseRegisterWord : (0x0000203B#32).extractLsb' 0 7 = 0b0111011#7 ∧
    (0x0000203B#32).extractLsb' 25 7 = 0b0000000#7 ∧ (0x0000203B#32).extractLsb' 12 3 = 0b010#3 := by decide

theorem test_witness_BaseShiftImmediate : (0x04009093#32).extractLsb' 0 7 = 0b0010011#7 ∧
    (0x04009093#32).extractLsb' 12 3 = 0b001#3 ∧ (0x04009093#32).extractLsb' 26 6 ≠ 0b000000#6 := by decide

theorem test_witness_BaseImmediateWord : (0x0000201B#32).extractLsb' 0 7 = 0b0011011#7 ∧
    (0x0000201B#32).extractLsb' 12 3 = 0b010#3 ∧ (0x0200101B#32).extractLsb' 0 7 = 0b0011011#7 ∧
    (0x0200101B#32).extractLsb' 12 3 = 0b001#3 ∧ (0x0200101B#32).extractLsb' 25 7 ≠ 0b0000000#7 := by decide

theorem test_witness_othersIllegal_memory :
    ((0x00007003#32).extractLsb' 0 7 = 0b0000011#7 ∧ (0x00007003#32).extractLsb' 12 3 = 0b111#3) ∧
    ((0x00004023#32).extractLsb' 0 7 = 0b0100011#7 ∧ (0x00004023#32).extractLsb' 14 1 ≠ 0b0#1) := by decide

theorem test_witness_othersIllegal_control :
    ((0x00001067#32).extractLsb' 0 7 = 0b1100111#7 ∧ (0x00001067#32).extractLsb' 12 3 ≠ 0b000#3) ∧
    ((0x00002063#32).extractLsb' 0 7 = 0b1100011#7 ∧ (0x00002063#32).extractLsb' 12 3 = 0b010#3) := by decide

theorem test_witness_othersIllegal_system :
    ((0x0000100F#32).extractLsb' 0 7 = 0b0001111#7 ∧ (0x0000100F#32).extractLsb' 12 3 ≠ 0b000#3) ∧
    ((0x30200073#32).extractLsb' 0 7 = 0b1110011#7 ∧ (0x30200073#32).extractLsb' 12 3 = 0b000#3 ∧
      0x30200073#32 ≠ 0x00000073#32 ∧ 0x30200073#32 ≠ 0x00100073#32) ∧
    ((0x00004073#32).extractLsb' 0 7 = 0b1110011#7 ∧ (0x00004073#32).extractLsb' 12 3 = 0b100#3) := by decide

end Sys2Proof.Tests
end

section
/-!
PROOFS. What every prefixed instruction is: one pass of `runPrefixed` over its loop, under the form its traits
name (41_vector_context.md R223), and what an exception taken in the starting state leaves (60_exceptions.md
R345, R346).
-/

namespace Sys2Proof.Machine

/-! ### Exceptions -/

/-- Taking an exception in the starting state changes the trap record alone. -/
theorem traps_takeTrap (s : State) (c : Cause) (v : Word) : Traps s (.next (s.takeTrap c v)) c v :=
  ⟨s.takeTrap c v, rfl, by simp⟩

/-- An illegal instruction changes the trap record alone. -/
theorem traps_illegal (s : State) (w : Word) : Traps s (illegal w s) .illegalInstruction w :=
  traps_takeTrap s .illegalInstruction w

/-! ### The form and the loop of a prefixed instruction -/

/-- The form of an instruction, read from its encoding and its traits. -/
def formOf (i : Instr) : Form := ⟨i.word, i.ilen, (traitsOf i).svlen, (traitsOf i).vltyp⟩

/-- `loop` is a hardware loop of the given kind, over some element operation. -/
inductive IsLoop (fm : Form) : LoopKind → (State → LoopResult) → Prop
  | single (pred : Pred) (dv : Bool) (op : Nat → ElementOp) : IsLoop fm .single (runSingle fm pred dv op)
  | twin (tpred : TPred) (sv dv : Bool) (op : Nat → Nat → ElementOp) :
    IsLoop fm .twin (runTwin fm tpred sv dv op)

/-- The result `r` in state `s` is one pass of `runPrefixed` with form `fm` over a loop of the given kind. -/
def RunsPrefixed (fm : Form) (kind : LoopKind) (s : State) (r : Result) : Prop :=
  ∃ ok loop, IsLoop fm kind loop ∧ r = runPrefixed fm ok loop s

/-- A failed check of the format itself is a prefixed run as well: the one whose checks do not pass. -/
theorem runsPrefixed_illegal {fm : Form} {kind : LoopKind} {loop : State → LoopResult}
    (h : IsLoop fm kind loop) (s : State) : RunsPrefixed fm kind s (illegal fm.word s) :=
  ⟨false, loop, h, by simp [runPrefixed]⟩

/-- The integer R and U formats and the fused multiply-adds (R216). -/
theorem runsPrefixed_runSingle (fm : Form) (ok : Bool) (pred : Pred) (dv : Bool) (op : Nat → ElementOp)
    (s : State) : RunsPrefixed fm .single s (runPrefixed fm ok (runSingle fm pred dv op) s) :=
  ⟨ok, _, .single pred dv op, rfl⟩

/-- The integer I format, loads and stores (R217). -/
theorem runsPrefixed_runTwin (fm : Form) (ok : Bool) (tpred : TPred) (sv dv : Bool)
    (op : Nat → Nat → ElementOp) (s : State) :
    RunsPrefixed fm .twin s (runPrefixed fm ok (runTwin fm tpred sv dv op) s) :=
  ⟨ok, _, .twin tpred sv dv op, rfl⟩

/-- OP-FP without a shape is illegal; with one it is a single-predicated run (R285). -/
theorem runsPrefixed_runOpFp (fm : Form) (base : BitVec 32) (shape : Option FpShape) (pred : Pred)
    (rd rs1 rs2 : Operand) (s : State) :
    RunsPrefixed fm .single s (runOpFp fm base shape pred rd rs1 rs2 s) := by
  cases shape with
  | none => exact runsPrefixed_illegal (.single pred rd.vec fun _ _ => .ok) s
  | some sh => exact runsPrefixed_runSingle ..

/-- LOAD-FP of a width without an access size is illegal; of any other it is a twin-predicated run (R286). -/
theorem runsPrefixed_runLoadFp (fm : Form) (width : BitVec 3) (ew : Ew) (tpred : TPred) (rd rs1 : Operand)
    (imm : BitVec 12) (s : State) :
    RunsPrefixed fm .twin s (runLoadFp fm width ew tpred rd rs1 imm s) := by
  unfold runLoadFp
  cases fpAccessSize width with
  | none => exact runsPrefixed_illegal (.twin tpred false rd.vec fun _ _ _ => .ok) s
  | some mb => exact runsPrefixed_runTwin ..

/-- STORE-FP of a width without an access size is illegal; of any other it is a twin-predicated run (R286). -/
theorem runsPrefixed_runStoreFp (fm : Form) (width : BitVec 3) (ew : Ew) (tpred : TPred) (rs2 rs1 : Operand)
    (imm : BitVec 12) (s : State) :
    RunsPrefixed fm .twin s (runStoreFp fm width ew tpred rs2 rs1 imm s) := by
  unfold runStoreFp
  cases fpAccessSize width with
  | none => exact runsPrefixed_illegal (.twin tpred rs2.vec false fun _ _ _ => .ok) s
  | some mb => exact runsPrefixed_runTwin ..

/-- Every prefixed instruction is one pass of `runPrefixed` with its own form over a loop of its own kind. -/
theorem exec_runsPrefixed {i : Instr} (h : (traitsOf i).loop ≠ .none) (s : State) :
    RunsPrefixed (formOf i) (traitsOf i).loop s (exec i s) := by
  cases i with
  | lui | auipc | addi | slti | sltiu | xori | ori | andi | slli | srli | srai | addiw | slliw | srliw
  | sraiw | add | sub | sll | slt | sltu | xor | srl | sra | or | and | addw | subw | sllw | srlw | sraw
  | lb | lh | lw | ld | lbu | lhu | lwu | sb | sh | sw | sd | jal | jalr | beq | bne | blt | bge | bltu
  | bgeu | fence | ecall | ebreak | csrrw | csrrs | csrrc | csrrwi | csrrsi | csrrci =>
    exact absurd rfl h
  | p48Lui | p48Auipc | p48Add | p48Sub | p48Sll | p48Slt | p48Sltu | p48Xor | p48Srl | p48Sra | p48Or
  | p48And | p48Addw | p48Subw | p48Sllw | p48Srlw | p48Sraw | p64Lui | p64Auipc | p64Add | p64Sub | p64Sll
  | p64Slt | p64Sltu | p64Xor | p64Srl | p64Sra | p64Or | p64And | p64Addw | p64Subw | p64Sllw | p64Srlw
  | p64Sraw | p48Madd | p48Msub | p48Nmsub | p48Nmadd | p64Madd | p64Msub | p64Nmsub | p64Nmadd =>
    exact runsPrefixed_runSingle ..
  | p48Addi | p48Slti | p48Sltiu | p48Xori | p48Ori | p48Andi | p48Slli | p48Srli | p48Srai | p48Addiw
  | p48Slliw | p48Srliw | p48Sraiw | p48Lb | p48Lh | p48Lw | p48Ld | p48Lbu | p48Lhu | p48Lwu | p48Sb
  | p48Sh | p48Sw | p48Sd | p64Addi | p64Slti | p64Sltiu | p64Xori | p64Ori | p64Andi | p64Slli | p64Srli
  | p64Srai | p64Addiw | p64Slliw | p64Srliw | p64Sraiw | p64Lb | p64Lh | p64Lw | p64Ld | p64Lbu | p64Lhu
  | p64Lwu | p64Sb | p64Sh | p64Sw | p64Sd =>
    exact runsPrefixed_runTwin ..
  | p48OpFp | p64OpFp => exact runsPrefixed_runOpFp ..
  | p48LoadFp | p64LoadFp => exact runsPrefixed_runLoadFp ..
  | p48StoreFp | p64StoreFp => exact runsPrefixed_runStoreFp ..

/-! ### Absent options -/

/-- Not to be supported is to use an absent option or to take VL from x0 (R7, R306). -/
theorem not_supported_iff (p : Platform) (sv : Svlen) (v : VLtyp) :
    ¬Supported p sv v ↔
      (sv ≠ .subvl ∧ p.svlenSupported = false) ∨ (v ≠ .default ∧ p.vltypSupported = false) ∨
        ∃ dest, v = .vlReg dest 0#5 := by
  simp only [Supported, not_and_or, Classical.not_imp, Bool.not_eq_true, not_forall, not_not]

/-- A prefixed instruction whose options are not supported is illegal, whatever its operands (R7, R306). -/
theorem exec_unsupported {i : Instr} {s : State} (hl : (traitsOf i).loop ≠ .none)
    (hs : ¬Supported s.platform (traitsOf i).svlen (traitsOf i).vltyp) : exec i s = illegal i.word s := by
  obtain ⟨ok, loop, -, hr⟩ := exec_runsPrefixed hl s
  calc exec i s = runPrefixed (formOf i) ok loop s := hr
    _ = illegal i.word s := runPrefixed_unsupported hs ok loop

/-- Settles O40: the static checks refuse the options before anything else is done. -/
theorem unsupportedOptionsTrap : Obligations.UnsupportedOptionsTrap := by
  intro i s hloop habsent
  rw [exec_unsupported hloop ((not_supported_iff ..).2 habsent)]
  exact traps_illegal s i.word

end Sys2Proof.Machine
end

section
/-!
PROOFS. What an instruction can do to a state, said once: the single updates each kind of instruction may make
before its pc moves on or it raises, and that with neither context it does not read SVPSTATE. Invariants and
frames follow by going through the updates.
-/

namespace Sys2Proof.Machine

/-! ### Updates -/

/-- One change that an instruction with these traits may make on the way to its next state. -/
inductive Update (tr : Traits) (s : State) : State → Prop
  /-- VLtyp applied (R303) -/
  | vltyp : Update tr s (applyVLtyp tr.vltyp s)
  /-- svlen copied to subvl (R34) -/
  | subvl : Update tr s (writeSubvl tr.svlen s)
  /-- a loop position recorded (R216, R217) -/
  | srcoffs (v : BitVec 6) : Update tr s (s.setSrcoffs v)
  /-- a loop position recorded (R217) -/
  | destoffs (v : BitVec 6) : Update tr s (s.setDestoffs v)
  /-- a sub-element recorded (R216, R217) -/
  | dsvoffs (v : BitVec 2) : Update tr s (s.setDsvoffs v)
  /-- a result in an x register, by any instruction but a store -/
  | writeX (hs : tr.stores = false) (n : Reg) (v : Word) : Update tr s (s.setX n v)
  /-- a result in an f register (R285, R286) -/
  | writeF (hs : tr.stores = false) (hf : tr.float = true) (n : Reg) (v : Quad) : Update tr s (s.setF n v)
  /-- exception flags accumulated (R284) -/
  | accrue (hs : tr.stores = false) (hf : tr.float = true) (b : BitVec 5) : Update tr s (s.accrue b)
  /-- a store that MemWrite admits (R54) -/
  | store (hs : tr.stores = true) {a : Word} {n : Nat} {v : Quad} {t : State}
    (hw : memWrite s a n v = .ok t) : Update tr s t
  /-- a CSR write without an unsupported bit (R36) -/
  | csr (hc : tr.csr = true) (v : Word) (hv : v &&& unsupportedBits s.platform = 0#64) :
    Update tr s (s.withSvpstate (v.setWidth 32))

/-- Any number of updates. -/
abbrev Updates (tr : Traits) : State → State → Prop := Relation.ReflTransGen (Update tr)

theorem Update.updates {tr : Traits} {s t : State} (h : Update tr s t) : Updates tr s t := .single h

/-- How an instruction ends: it raises, or the pc moves. `even` says that its offset, if it has one, is even. -/
inductive Ends (even : Bool) (s : State) : State → Prop
  | raises (c : Cause) (v : Word) : Ends even s (s.takeTrap c v)
  | moves (pc' : Word) (h : even = true → s.pc.getLsbD 0 = false → pc'.getLsbD 0 = false) :
    Ends even s (s.jump pc')

/-- A next state is reached by updates and then the end of the instruction. -/
def Answers (tr : Traits) (even : Bool) (s : State) (r : Result) : Prop :=
  ∀ t, r = .next t → ∃ s', Updates tr s s' ∧ Ends even s' t

/-- What every update and every end keep, the instruction keeps. -/
theorem Answers.keeps {tr : Traits} {even : Bool} {s t : State} {r : Result} (h : Answers tr even s r)
    (P : State → Prop) (hu : ∀ {a b}, Update tr a b → P a → P b) (he : ∀ {a b}, Ends even a b → P a → P b)
    (hr : r = .next t) (hs : P s) : P t := by
  obtain ⟨s', hs', hend⟩ := h t hr
  have hP : P s' := by
    clear hend
    induction hs' with
    | refl => exact hs
    | tail _ hab ih => exact hu hab ih
  exact he hend hP

theorem answers_takeTrap (tr : Traits) (even : Bool) (s : State) (c : Cause) (v : Word) :
    Answers tr even s (.next (s.takeTrap c v)) := by
  rintro t ⟨⟩
  exact ⟨s, .refl, .raises c v⟩

/-- An early end raises or answers no state at all. -/
theorem answers_stopAt (tr : Traits) (even : Bool) (s : State) (e : Stop) : Answers tr even s (stopAt s e) := by
  cases e with
  | raise c v => exact answers_takeTrap tr even s c v
  | stuck f => rintro t ⟨⟩

/-! ### SVPSTATE replaced in a result -/

/-- A result with SVPSTATE replaced in its next state. -/
def resultWithSvpstate (v : BitVec 32) : Result → Result
  | .next t => .next (t.withSvpstate v)
  | .fault e => .fault e
  | .refused e => .refused e

theorem setX_withSvpstate (s : State) (v : BitVec 32) (n : Reg) (a : Word) :
    (s.withSvpstate v).setX n a = (s.setX n a).withSvpstate v := by
  unfold State.setX
  split <;> rfl

theorem memRead_withSvpstate (s : State) (v : BitVec 32) (a : Word) (n : Nat) :
    memRead (s.withSvpstate v) a n = memRead s a n := rfl

theorem memWrite_withSvpstate (s : State) (v : BitVec 32) (a : Word) (n : Nat) (d : Quad) :
    memWrite (s.withSvpstate v) a n d = (memWrite s a n d).map (·.withSvpstate v) := by
  simp only [memWrite, apply_ite (Except.map _)]
  rfl

theorem elemWr_withSvpstate (s : State) (u : BitVec 32) (n : Reg) (k : Nat) {w : Nat} (v : BitVec w) :
    elemWr (s.withSvpstate u) n k v = (elemWr s n k v).withSvpstate u := by
  simp only [elemWr_eq, setX_withSvpstate, State.getX_withSvpstate]

theorem stopAt_withSvpstate (s : State) (v : BitVec 32) (e : Stop) :
    stopAt (s.withSvpstate v) e = resultWithSvpstate v (stopAt s e) := by
  cases e <;> rfl

/-! ### Element operations -/

/-- What every element operation is: a completed one has made updates, and none reads SVPSTATE. -/
structure IsElement (tr : Traits) (op : State → Except Stop State) : Prop where
  updates : ∀ {s s'}, op s = .ok s' → Updates tr s s'
  ignoresSvpstate : ∀ s v, op (s.withSvpstate v) = (op s).map (·.withSvpstate v)

/-- An element operation that writes an x register when its checks pass. -/
theorem isElement_elemWr {tr : Traits} (hs : tr.stores = false) (fm : Form) (ok : Bool) (n : Reg) (k : Nat)
    {w : Nat} {v : State → BitVec w} (hv : ∀ s u, v (s.withSvpstate u) = v s) :
    IsElement tr (fun s => if ok then .ok (elemWr s n k (v s)) else fm.raiseIllegal) where
  updates {s s'} h := by
    cases ok with
    | false => cases h
    | true => cases h; exact (Update.writeX hs _ _).updates
  ignoresSvpstate s u := by
    cases ok with
    | false => rfl
    | true => simp [hv, elemWr_withSvpstate, Except.map]

theorem isElement_elementR {tr : Traits} (hs : tr.stores = false) (fm : Form) (w : Nat) (sg : Signedness)
    (fn : Word → Word → Word) (rd rs1 rs2 : Operand) (i sub : Nat) :
    IsElement tr (elementR fm w sg fn rd rs1 rs2 i sub) :=
  isElement_elemWr hs fm _ _ _ fun _ _ => rfl

theorem isElement_elementI {tr : Traits} (hs : tr.stores = false) (fm : Form) (w : Nat) (sg : Signedness)
    (fn : Word → Word) (rd rs1 : Operand) (i j sub : Nat) :
    IsElement tr (elementI fm w sg fn rd rs1 i j sub) :=
  isElement_elemWr hs fm _ _ _ fun _ _ => rfl

theorem isElement_elementU {tr : Traits} (hs : tr.stores = false) (fm : Form) (w : Nat) (value : Word)
    (rd : Operand) (i sub : Nat) : IsElement tr (elementU fm w value rd i sub) :=
  isElement_elemWr hs fm _ _ _ fun _ _ => rfl

/-- An element operation that reads memory and writes a register with what it read, when its checks pass. -/
theorem isElement_load {tr : Traits} (fm : Form) {ok : State → Bool} {ea : State → Word} {mb : Nat}
    {put : State → Quad → State} (hok : ∀ s u, ok (s.withSvpstate u) = ok s)
    (hea : ∀ s u, ea (s.withSvpstate u) = ea s) (hup : ∀ s m, Update tr s (put s m))
    (hput : ∀ s u m, put (s.withSvpstate u) m = (put s m).withSvpstate u) :
    IsElement tr fun s =>
      if ok s then
        match memRead s (ea s) mb with
        | .error e => .error e
        | .ok m => .ok (put s m)
      else fm.raiseIllegal where
  updates {s s'} h := by
    split at h
    · split at h
      · cases h
      · cases h; exact (hup s _).updates
    · cases h
  ignoresSvpstate s u := by
    simp only [hok, hea, memRead_withSvpstate, hput]
    cases ok s with
    | false => rfl
    | true => cases memRead s (ea s) mb <;> rfl

/-- An element operation that stores when its checks pass. -/
theorem isElement_store {tr : Traits} (hs : tr.stores = true) (fm : Form) {ok : State → Bool}
    {ea : State → Word} {mb : Nat} {data : State → Quad} (hok : ∀ s u, ok (s.withSvpstate u) = ok s)
    (hea : ∀ s u, ea (s.withSvpstate u) = ea s) (hdata : ∀ s u, data (s.withSvpstate u) = data s) :
    IsElement tr fun s => if ok s then memWrite s (ea s) mb (data s) else fm.raiseIllegal where
  updates {s s'} h := by
    split at h
    · exact (Update.store hs h).updates
    · cases h
  ignoresSvpstate s u := by
    simp only [hok, hea, hdata, memWrite_withSvpstate]
    cases ok s <;> rfl

theorem isElement_elementLoad {tr : Traits} (hs : tr.stores = false) (fm : Form) (mb : Nat) (sg : Signedness)
    (w : Nat) (rd rs1 : Operand) (imm : Word) (memVec : Bool) (i j sub : Nat) :
    IsElement tr (elementLoad fm mb sg w rd rs1 imm memVec i j sub) :=
  isElement_load fm (put := fun s m => elemWr s rd.reg _ ((loadExtend mb sg m).setWidth w))
    (fun _ _ => rfl) (fun _ _ => rfl) (fun _ _ => .writeX hs _ _) fun _ _ _ => elemWr_withSvpstate ..

theorem isElement_elementStore {tr : Traits} (hs : tr.stores = true) (fm : Form) (mb w : Nat)
    (rs2 rs1 : Operand) (imm : Word) (memVec : Bool) (i j sub : Nat) :
    IsElement tr (elementStore fm mb w rs2 rs1 imm memVec i j sub) :=
  isElement_store hs fm (fun _ _ => rfl) (fun _ _ => rfl) fun _ _ => rfl

theorem isElement_elementLoadFp {tr : Traits} (hs : tr.stores = false) (hf : tr.float = true) (fm : Form)
    (mb : Nat) (rd rs1 : Operand) (imm : Word) (memVec : Bool) (i j sub : Nat) :
    IsElement tr (elementLoadFp fm mb rd rs1 imm memVec i j sub) :=
  isElement_load fm (put := fun s m => felemWr s rd.reg _ (m.setWidth (8 * mb)))
    (fun _ _ => rfl) (fun _ _ => rfl) (fun _ _ => .writeF hs hf _ _) fun _ _ _ => rfl

theorem isElement_elementStoreFp {tr : Traits} (hs : tr.stores = true) (fm : Form) (mb : Nat)
    (rs2 rs1 : Operand) (imm : Word) (memVec : Bool) (i j sub : Nat) :
    IsElement tr (elementStoreFp fm mb rs2 rs1 imm memVec i j sub) :=
  isElement_store hs fm (fun _ _ => rfl) (fun _ _ => rfl) fun _ _ => rfl

/-- A result in either register file. -/
theorem update_writeElem {tr : Traits} (hs : tr.stores = false) (hf : tr.float = true) (s : State)
    (t : ElemType) (n : Reg) (k : Nat) (v : Quad) : Update tr s (writeElem s t n k v) := by
  unfold writeElem
  split
  · exact .writeX hs _ _
  · exact .writeF hs hf _ _

/-- An element operation of floating-point arithmetic: a result written, then its flags accumulated. -/
theorem isElement_fpFinish {tr : Traits} (hs : tr.stores = false) (hf : tr.float = true) (fm : Form)
    (base : BitVec 32) (t : ElemType) (rd : Reg) (k : Nat) {ok : State → Bool} {srcs : State → List Quad}
    (hok : ∀ s u, ok (s.withSvpstate u) = ok s) (hsrcs : ∀ s u, srcs (s.withSvpstate u) = srcs s) :
    IsElement tr fun s => if ok s then .ok (fpFinish s base t rd k (srcs s)) else fm.raiseIllegal where
  updates {s s'} h := by
    split at h
    · cases h
      exact (update_writeElem hs hf ..).updates.tail (.accrue hs hf _)
    · cases h
  ignoresSvpstate s u := by
    have hfin : fpFinish (s.withSvpstate u) base t rd k (srcs s) =
        (fpFinish s base t rd k (srcs s)).withSvpstate u := by
      unfold fpFinish writeElem
      cases t.file with
      | x => simp only [elemWr_withSvpstate]; rfl
      | f => rfl
    simp only [hok, hsrcs, hfin]
    cases ok s <;> rfl

theorem isElement_elementFR {tr : Traits} (hs : tr.stores = false) (hf : tr.float = true) (fm : Form)
    (base : BitVec 32) (sh : FpShape) (rd rs1 rs2 : Operand) (i sub : Nat) :
    IsElement tr (elementFR fm base sh rd rs1 rs2 i sub) := by
  obtain ⟨dest, src1, src2⟩ := sh
  cases src2 <;> exact isElement_fpFinish hs hf fm base dest rd.reg _ (fun _ _ => rfl) fun _ _ => rfl

theorem isElement_elementFR4 {tr : Traits} (hs : tr.stores = false) (hf : tr.float = true) (fm : Form)
    (base : BitVec 32) (t : ElemType) (rd rs1 rs2 rs3 : Operand) (i sub : Nat) :
    IsElement tr (elementFR4 fm base t rd rs1 rs2 rs3 i sub) :=
  isElement_fpFinish hs hf fm base t rd.reg _ (fun _ _ => rfl) fun _ _ => rfl

end Sys2Proof.Machine
end

section
/-!
PROOFS. What every instruction is: a prefixed one runs `runPrefixed` over a hardware loop of its own kind whose
element operations make its updates (41_vector_context.md R223); any other makes its updates itself.
-/

namespace Sys2Proof.Machine

/-! ### Prefixed meanings as element loops -/

/-- A hardware loop of the kind the traits name, over element operations that make their updates. -/
inductive IsElementLoop (tr : Traits) (fm : Form) : (State → LoopResult) → Prop
  | single (hk : tr.loop = .single) (pred : Pred) (dv : Bool) {op : Nat → ElementOp}
    (h : ∀ i sub, IsElement tr (op i sub)) : IsElementLoop tr fm (runSingle fm pred dv op)
  | twin (hk : tr.loop = .twin) (tpred : TPred) (sv dv : Bool) {op : Nat → Nat → ElementOp}
    (h : ∀ i j sub, IsElement tr (op i j sub)) : IsElementLoop tr fm (runTwin fm tpred sv dv op)

/-- A meaning is one pass of `runPrefixed` over such a loop. Beside the context checks it may have one of its
own, which depends on the platform and is made by floating-point instructions only. -/
def RunsElements (tr : Traits) (fm : Form) (m : State → Result) : Prop :=
  ∃ (ok : Platform → Bool) (loop : Word → State → LoopResult), (tr.float = false → ∀ p, ok p = true) ∧
    (∀ pc, IsElementLoop tr fm (loop pc)) ∧ ∀ s, m s = runPrefixed fm (ok s.platform) (loop s.pc) s

/-- A meaning that is illegal on every path, of a floating-point word without a meaning. -/
theorem runsElements_illegal {tr : Traits} {fm : Form} {loop : State → LoopResult} (hf : tr.float = true)
    (h : IsElementLoop tr fm loop) : RunsElements tr fm (illegal fm.word) :=
  ⟨fun _ => false, fun _ => loop, by simp [hf], fun _ => h, fun s => by simp [runPrefixed]⟩

theorem runsElements_single {tr : Traits} {fm : Form} (hk : tr.loop = .single) {pred : Pred} {dv : Bool}
    {op : Nat → ElementOp} (h : ∀ i sub, IsElement tr (op i sub)) :
    RunsElements tr fm (fun s => runPrefixed fm true (runSingle fm pred dv op) s) :=
  ⟨fun _ => true, fun _ => _, fun _ _ => rfl, fun _ => .single hk pred dv h, fun _ => rfl⟩

theorem runsElements_twin {tr : Traits} {fm : Form} (hk : tr.loop = .twin) {tpred : TPred} {sv dv : Bool}
    {op : Nat → Nat → ElementOp} (h : ∀ i j sub, IsElement tr (op i j sub)) :
    RunsElements tr fm (fun s => runPrefixed fm true (runTwin fm tpred sv dv op) s) :=
  ⟨fun _ => true, fun _ => _, fun _ _ => rfl, fun _ => .twin hk tpred sv dv h, fun _ => rfl⟩

/-- The U formats, whose value may depend on the pc (R266). -/
theorem runsElements_elementU {tr : Traits} {fm : Form} (hk : tr.loop = .single) (hs : tr.stores = false)
    (value : Word → Word) {pred : Pred} {dv : Bool} {w : Nat} {rd : Operand} :
    RunsElements tr fm
      (fun s => runPrefixed fm true (runSingle fm pred dv (elementU fm w (value s.pc) rd)) s) :=
  ⟨fun _ => true, fun _ => _, fun _ _ => rfl,
    fun pc => .single hk pred dv fun i sub => isElement_elementU hs fm w (value pc) rd i sub, fun _ => rfl⟩

theorem runsElements_runOpFp {tr : Traits} {fm : Form} (hk : tr.loop = .single) (hs : tr.stores = false)
    (hf : tr.float = true) (base : BitVec 32) (shape : Option FpShape) (pred : Pred) (rd rs1 rs2 : Operand) :
    RunsElements tr fm (runOpFp fm base shape pred rd rs1 rs2) := by
  have hloop (sh : FpShape) : IsElementLoop tr fm (runSingle fm pred rd.vec (elementFR fm base sh rd rs1 rs2)) :=
    .single hk pred rd.vec fun i sub => isElement_elementFR hs hf fm base sh rd rs1 rs2 i sub
  cases shape with
  | none => exact runsElements_illegal hf (hloop ⟨intElem, intElem, none⟩)
  | some sh => exact ⟨fun p => p.hasF && sh.fits p, fun _ => _, by simp [hf], fun _ => hloop sh, fun _ => rfl⟩

theorem runsElements_runFusedMul {tr : Traits} {fm : Form} (hk : tr.loop = .single) (hs : tr.stores = false)
    (hf : tr.float = true) (base : BitVec 32) (fmt : BitVec 2) (pred : Pred) (rd rs1 rs2 rs3 : Operand) :
    RunsElements tr fm (runFusedMul fm base fmt pred rd rs1 rs2 rs3) :=
  ⟨fun p => p.hasF && (fpElem fmt).fits p, fun _ => _, by simp [hf],
    fun _ => .single hk pred rd.vec fun i sub =>
      isElement_elementFR4 hs hf fm base (fpElem fmt) rd rs1 rs2 rs3 i sub,
    fun _ => rfl⟩

theorem runsElements_runLoadFp {tr : Traits} {fm : Form} (hk : tr.loop = .twin) (hs : tr.stores = false)
    (hf : tr.float = true) (width : BitVec 3) (ew : Ew) (tpred : TPred) (rd rs1 : Operand) (imm : BitVec 12) :
    RunsElements tr fm (runLoadFp fm width ew tpred rd rs1 imm) := by
  have hloop (mb : Nat) (sv : Bool) : IsElementLoop tr fm (runTwin fm tpred sv rd.vec
      (elementLoadFp fm mb rd rs1 (immI imm) sv)) :=
    .twin hk tpred sv rd.vec fun i j sub => isElement_elementLoadFp hs hf fm mb rd rs1 _ sv i j sub
  unfold runLoadFp
  cases fpAccessSize width with
  | none => exact runsElements_illegal hf (hloop 0 false)
  | some mb => exact ⟨fun p => fpMemLegal p mb ew, fun _ => _, by simp [hf], fun _ => hloop mb _, fun _ => rfl⟩

theorem runsElements_runStoreFp {tr : Traits} {fm : Form} (hk : tr.loop = .twin) (hs : tr.stores = true)
    (hf : tr.float = true) (width : BitVec 3) (ew : Ew) (tpred : TPred) (rs2 rs1 : Operand) (imm : BitVec 12) :
    RunsElements tr fm (runStoreFp fm width ew tpred rs2 rs1 imm) := by
  have hloop (mb : Nat) (dv : Bool) : IsElementLoop tr fm (runTwin fm tpred rs2.vec dv
      (elementStoreFp fm mb rs2 rs1 (immI imm) dv)) :=
    .twin hk tpred rs2.vec dv fun i j sub => isElement_elementStoreFp hs fm mb rs2 rs1 _ dv i j sub
  unfold runStoreFp
  cases fpAccessSize width with
  | none => exact runsElements_illegal hf (hloop 0 false)
  | some mb => exact ⟨fun p => fpMemLegal p mb ew, fun _ => _, by simp [hf], fun _ => hloop mb _, fun _ => rfl⟩

/-- Every prefixed instruction runs its elements under its own form. -/
theorem exec_runsElements {i : Instr} (h : (traitsOf i).loop ≠ .none) :
    RunsElements (traitsOf i) (formOf i) (exec i) := by
  cases i with
  | lui | auipc | addi | slti | sltiu | xori | ori | andi | slli | srli | srai | addiw | slliw | srliw
  | sraiw | add | sub | sll | slt | sltu | xor | srl | sra | or | and | addw | subw | sllw | srlw | sraw
  | lb | lh | lw | ld | lbu | lhu | lwu | sb | sh | sw | sd | jal | jalr | beq | bne | blt | bge | bltu
  | bgeu | fence | ecall | ebreak | csrrw | csrrs | csrrc | csrrwi | csrrsi | csrrci =>
    exact absurd rfl h
  | p48Lui _ imm | p64Lui _ imm => exact runsElements_elementU rfl rfl fun _ => fnLui imm
  | p48Auipc _ imm | p64Auipc _ imm => exact runsElements_elementU rfl rfl fun pc => fnAuipc pc imm
  | p48Add | p48Sub | p48Sll | p48Slt | p48Sltu | p48Xor | p48Srl | p48Sra | p48Or | p48And | p48Addw
  | p48Subw | p48Sllw | p48Srlw | p48Sraw | p64Add | p64Sub | p64Sll | p64Slt | p64Sltu | p64Xor | p64Srl
  | p64Sra | p64Or | p64And | p64Addw | p64Subw | p64Sllw | p64Srlw | p64Sraw =>
    exact runsElements_single rfl fun _ _ => isElement_elementR rfl ..
  | p48Addi | p48Slti | p48Sltiu | p48Xori | p48Ori | p48Andi | p48Slli | p48Srli | p48Srai | p48Addiw
  | p48Slliw | p48Srliw | p48Sraiw | p64Addi | p64Slti | p64Sltiu | p64Xori | p64Ori | p64Andi | p64Slli
  | p64Srli | p64Srai | p64Addiw | p64Slliw | p64Srliw | p64Sraiw =>
    exact runsElements_twin rfl fun _ _ _ => isElement_elementI rfl ..
  | p48Lb | p48Lh | p48Lw | p48Ld | p48Lbu | p48Lhu | p48Lwu | p64Lb | p64Lh | p64Lw | p64Ld | p64Lbu
  | p64Lhu | p64Lwu =>
    exact runsElements_twin rfl fun _ _ _ => isElement_elementLoad rfl ..
  | p48Sb | p48Sh | p48Sw | p48Sd | p64Sb | p64Sh | p64Sw | p64Sd =>
    exact runsElements_twin rfl fun _ _ _ => isElement_elementStore rfl ..
  | p48OpFp | p64OpFp => exact runsElements_runOpFp rfl rfl rfl ..
  | p48Madd | p48Msub | p48Nmsub | p48Nmadd | p64Madd | p64Msub | p64Nmsub | p64Nmadd =>
    exact runsElements_runFusedMul rfl rfl rfl ..
  | p48LoadFp | p64LoadFp => exact runsElements_runLoadFp rfl rfl rfl ..
  | p48StoreFp | p64StoreFp => exact runsElements_runStoreFp rfl rfl rfl ..

/-! ### Loops -/

theorem updates_setSrc (tr : Traits) (fm : Form) (i : Nat) (s : State) : Updates tr s (fm.setSrc i s) := by
  unfold Form.setSrc
  split
  · exact (Update.srcoffs _).updates
  · exact .refl

theorem updates_setDest (tr : Traits) (fm : Form) (j : Nat) (s : State) : Updates tr s (fm.setDest j s) := by
  unfold Form.setDest
  split
  · exact (Update.destoffs _).updates
  · exact .refl

theorem updates_setSub (tr : Traits) (fm : Form) (sub : Nat) (s : State) : Updates tr s (fm.setSub sub s) := by
  unfold Form.setSub
  split
  · exact (Update.dsvoffs _).updates
  · exact .refl

/-- Wherever a loop ends, it has made updates. -/
theorem IsElementLoop.updates {tr : Traits} {fm : Form} {loop : State → LoopResult}
    (h : IsElementLoop tr fm loop) (s : State) : Updates tr s (loopState (loop s)) := by
  cases h with
  | single _ pred dv hop =>
    exact runSingle_keeps (Updates tr s) fm pred dv _
      (fun i sub a ha => (ha.trans (updates_setSrc tr fm i a)).trans (updates_setSub tr fm sub _))
      (fun i sub _ _ ha hab => ha.trans ((hop i sub).updates hab)) s .refl
  | twin _ tpred sv dv hop =>
    exact runTwin_keeps (Updates tr s) fm tpred sv dv _
      (fun i j sub a ha => ((ha.trans (updates_setSrc tr fm i a)).trans (updates_setDest tr fm j _)).trans
        (updates_setSub tr fm sub _))
      (fun i j sub _ _ ha hab => ha.trans ((hop i j sub).updates hab)) s .refl

theorem predMask_withSvpstate (s : State) (v : BitVec 32) (p : Pred) :
    predMask (s.withSvpstate v) p = predMask s p := by cases p <;> rfl

theorem sourceMask_withSvpstate (s : State) (v : BitVec 32) (t : TPred) :
    sourceMask (s.withSvpstate v) t = sourceMask s t := by cases t <;> rfl

theorem destMask_withSvpstate (s : State) (v : BitVec 32) (t : TPred) :
    destMask (s.withSvpstate v) t = destMask s t := by cases t <;> rfl

/-- What a loop answers with SVPSTATE replaced. -/
def loopWithSvpstate (v : BitVec 32) : LoopResult → LoopResult
  | .ok s => .ok (s.withSvpstate v)
  | .error (s, e) => .error (s.withSvpstate v, e)

/-- With neither context a loop does not read SVPSTATE (R200). -/
theorem IsElementLoop.ignoresSvpstate {tr : Traits} {fm : Form} {loop : State → LoopResult}
    (h : IsElementLoop tr fm loop) (hv : fm.vltyp = .default) (hs : fm.svlen = .subvl) (s : State)
    (v : BitVec 32) : loop (s.withSvpstate v) = loopWithSvpstate v (loop s) := by
  cases h with
  | @single _ pred dv op hop =>
    rw [runSingle_default _ _ _ _ _ hv hs, runSingle_default _ _ _ _ _ hv hs, predMask_withSvpstate,
      (hop 0 0).ignoresSvpstate]
    cases (predMask s pred).active 0 with
    | false => rfl
    | true => cases op 0 0 s <;> rfl
  | @twin _ tpred sv dv op hop =>
    rw [runTwin_default _ _ _ _ _ _ hv hs, runTwin_default _ _ _ _ _ _ hv hs, sourceMask_withSvpstate,
      destMask_withSvpstate, (hop 0 0 0).ignoresSvpstate]
    cases (sourceMask s tpred).active 0 && (destMask s tpred).active 0 with
    | false => rfl
    | true => cases op 0 0 0 s <;> rfl

/-! ### What every meaning does -/

/-- What every meaning does: its next states are reached by its updates and an end; with neither context it
does not depend on SVPSTATE and does not change it, unless it is a CSR instruction. -/
structure Behaves (tr : Traits) (even : Bool) (m : State → Result) : Prop where
  answers : ∀ s, Answers tr even s (m s)
  ignoresSvpstate : tr.csr = false → tr.vltyp = .default → tr.svlen = .subvl →
    ∀ s v, m (s.withSvpstate v) = resultWithSvpstate v (m s)

/-- Bit 0 of a sum of even words. -/
theorem getLsbD_zero_add {a b : Word} (ha : a.getLsbD 0 = false) (hb : b.getLsbD 0 = false) :
    (a + b).getLsbD 0 = false := by
  simp only [BitVec.getLsbD, Nat.testBit_zero, BitVec.toNat_add, decide_eq_false_iff_not] at *
  omega

/-- Bit 0 of a sign-extended even offset. -/
theorem getLsbD_zero_signExtend {n : Nat} {a : BitVec (n + 1)} (ha : a.getLsbD 0 = false) :
    (a.signExtend 64).getLsbD 0 = false := by
  rw [BitVec.getLsbD_signExtend, if_pos (by omega), ha, Bool.and_false]

/-- The pc moved past an even number of bytes (R26). -/
theorem ends_advance (even : Bool) (s : State) {n : Nat} (hn : n % 2 = 0) :
    Ends even s (s.advance n) :=
  .moves _ fun _ hpc => getLsbD_zero_add hpc (by simp [BitVec.getLsbD, hn])

/-- A meaning that runs its elements under a form of its own context fields. -/
theorem RunsElements.behaves {tr : Traits} {fm : Form} {m : State → Result} (h : RunsElements tr fm m)
    (hv : fm.vltyp = tr.vltyp) (hsv : fm.svlen = tr.svlen)
    (hn : fm.ilen % 2 = 0) (even : Bool) : Behaves tr even m := by
  obtain ⟨ok, loop, -, hloop, hm⟩ := h
  have hbegin (s : State) : Updates tr s (beginPrefixed fm s) := by
    unfold beginPrefixed
    rw [hv, hsv]
    exact Update.vltyp.updates.tail .subvl
  refine ⟨fun s t ht => ?_, fun _ hdef hsub s v => ?_⟩
  · have hu := (hbegin s).trans ((hloop s.pc).updates _)
    rw [hm] at ht
    obtain rfl | ⟨s', hs', rfl⟩ | ⟨s', c, v, hs', rfl⟩ := runPrefixed_next ht
    · exact ⟨s, .refl, .raises _ _⟩
    · exact ⟨s', by rwa [hs'] at hu, ends_advance even s' hn⟩
    · exact ⟨s', by rwa [hs'] at hu, .raises c v⟩
  · have hid (a : State) : beginPrefixed fm a = a := by
      simp [beginPrefixed, hv, hsv, hdef, hsub, applyVLtyp, writeSubvl]
    have hl := (hloop s.pc).ignoresSvpstate (hv.trans hdef) (hsv.trans hsub) s v
    rw [hm, hm]
    unfold runPrefixed
    simp only [State.platform_withSvpstate, State.pc_withSvpstate, hid, hl]
    cases fm.legal s.platform && ok s.platform with
    | false => rfl
    | true =>
      cases loop s.pc s with
      | ok t => rfl
      | error e => exact stopAt_withSvpstate e.1 v e.2

/-! ### Unprefixed meanings -/

/-- A register written, if any, and a jump. -/
theorem behaves_setX_jump {tr : Traits} (hs : tr.stores = false) {even : Bool} {rd : BitVec 5}
    {val target : State → Word} (hval : ∀ s v, val (s.withSvpstate v) = val s)
    (ht : ∀ s v, target (s.withSvpstate v) = target s)
    (heven : ∀ s, even = true → s.pc.getLsbD 0 = false → (target s).getLsbD 0 = false) :
    Behaves tr even fun s => .next ((s.setX (reg5 rd) (val s)).jump (target s)) where
  answers s t h := by
    cases h
    exact ⟨_, (Update.writeX hs _ _).updates, .moves _ (by simpa using heven s)⟩
  ignoresSvpstate _ _ _ s v := by
    simp only [hval, ht, setX_withSvpstate]
    rfl

theorem behaves_writeRd {tr : Traits} (hs : tr.stores = false) {even : Bool} {rd : BitVec 5}
    {val : State → Word} (hval : ∀ s v, val (s.withSvpstate v) = val s) :
    Behaves tr even fun s => writeRd rd (val s) s where
  answers s t h := by
    cases h
    exact ⟨_, (Update.writeX hs _ _).updates, ends_advance even _ rfl⟩
  ignoresSvpstate _ _ _ s v := by
    simp only [writeRd, hval, setX_withSvpstate]
    rfl

theorem behaves_branch (tr : Traits) {offset : BitVec 13} {taken : State → Bool}
    (htaken : ∀ s v, taken (s.withSvpstate v) = taken s) :
    Behaves tr (!offset.getLsbD 0) fun s => branch (taken s) offset s where
  answers s t h := by
    cases h
    cases taken s with
    | false => exact ⟨s, .refl, ends_advance _ s rfl⟩
    | true =>
      exact ⟨s, .refl, .moves _ fun he hpc =>
        getLsbD_zero_add hpc (getLsbD_zero_signExtend (by simpa using he))⟩
  ignoresSvpstate _ _ _ s v := by
    simp only [htaken, branch]
    cases taken s <;> rfl

theorem behaves_baseLoad {tr : Traits} (hs : tr.stores = false) (even : Bool) (mb : Nat) (sg : Signedness)
    (rd rs1 : BitVec 5) (imm : BitVec 12) : Behaves tr even (baseLoad mb sg rd rs1 imm) where
  answers s := by
    unfold baseLoad
    split
    · exact answers_stopAt _ _ _ _
    · rintro t ⟨⟩
      exact ⟨_, (Update.writeX hs _ _).updates, ends_advance even _ rfl⟩
  ignoresSvpstate _ _ _ s v := by
    simp only [baseLoad, memRead_withSvpstate, State.getX_withSvpstate, setX_withSvpstate, stopAt_withSvpstate]
    cases memRead s (s.getX (reg5 rs1) + immI imm) mb <;> rfl

theorem behaves_baseStore {tr : Traits} (hs : tr.stores = true) (even : Bool) (mb : Nat)
    (rs1 rs2 : BitVec 5) (imm : BitVec 12) : Behaves tr even (baseStore mb rs1 rs2 imm) where
  answers s := by
    unfold baseStore
    split
    · exact answers_stopAt _ _ _ _
    · rename_i s' hw
      rintro t ⟨⟩
      exact ⟨s', (Update.store hs hw).updates, ends_advance even _ rfl⟩
  ignoresSvpstate _ _ _ s v := by
    simp only [baseStore, memWrite_withSvpstate, State.getX_withSvpstate, stopAt_withSvpstate]
    cases memWrite s (s.getX (reg5 rs1) + immI imm) mb ((s.getX (reg5 rs2)).setWidth 128) <;> rfl

theorem behaves_takeTrap (tr : Traits) (even : Bool) (c : Cause) (value : Word → Word) :
    Behaves tr even fun s => .next (s.takeTrap c (value s.pc)) where
  answers _ := answers_takeTrap _ _ _ _ _
  ignoresSvpstate _ _ _ _ _ := rfl

/-- FENCE moves the pc alone (R184). -/
theorem behaves_execFence (tr : Traits) (even : Bool) (rd rs1 : BitVec 5) (imm : BitVec 12) :
    Behaves tr even (execFence rd rs1 imm) where
  answers s t h := by
    cases h
    exact ⟨s, .refl, ends_advance even s rfl⟩
  ignoresSvpstate _ _ _ _ _ := rfl

/-- A CSR access is illegal, or it writes SVPSTATE, if at all, without an unsupported bit, and then rd (R36). -/
theorem behaves_csrAccess {tr : Traits} (hs : tr.stores = false) (hc : tr.csr = true) (even : Bool) (i : Instr)
    (rd : BitVec 5) (csr : BitVec 12) (write : State → Option Word) :
    Behaves tr even fun s => csrAccess i rd csr (write s) s where
  answers s := by
    have hback {a : State} (ha : Updates tr s a) :
        Answers tr even s (csrAccess.writeBack rd s a) := by
      rintro t ⟨⟩
      exact ⟨_, ha.tail (.writeX hs _ _), ends_advance even _ rfl⟩
    unfold csrAccess
    split
    · cases write s with
      | none => exact hback .refl
      | some v =>
        dsimp only
        split
        · rename_i hv
          exact hback (Update.csr hc v hv).updates
        · exact answers_takeTrap _ _ _ _ _
    · exact answers_takeTrap _ _ _ _ _
  ignoresSvpstate hn := by simp [hc] at hn

/-! ### Every instruction -/

/-- The offset of a jump or branch is even; of any other instruction nothing is asked. -/
def evenOffset : Instr → Bool
  | .jal _ offset => !offset.getLsbD 0
  | .beq _ _ offset => !offset.getLsbD 0
  | .bne _ _ offset => !offset.getLsbD 0
  | .blt _ _ offset => !offset.getLsbD 0
  | .bge _ _ offset => !offset.getLsbD 0
  | .bltu _ _ offset => !offset.getLsbD 0
  | .bgeu _ _ offset => !offset.getLsbD 0
  | _ => true

/-- Every instruction is of an even number of bytes (R70). -/
theorem ilen_even (i : Instr) : i.ilen % 2 = 0 := by
  unfold Instr.ilen
  cases encode i <;> simp [InstrWord.ilen]

/-- What every instruction does. -/
theorem exec_behaves (i : Instr) : Behaves (traitsOf i) (evenOffset i) (exec i) := by
  by_cases h : (traitsOf i).loop = .none
  case neg => exact (exec_runsElements h).behaves rfl rfl (ilen_even i) _
  cases i with
  | lui | auipc | addi | slti | sltiu | xori | ori | andi | slli | srli | srai | addiw | slliw | srliw
  | sraiw | add | sub | sll | slt | sltu | xor | srl | sra | or | and | addw | subw | sllw | srlw | sraw =>
    exact behaves_writeRd rfl fun _ _ => rfl
  | lb | lh | lw | ld | lbu | lhu | lwu => exact behaves_baseLoad rfl ..
  | sb | sh | sw | sd => exact behaves_baseStore rfl ..
  | jal rd offset =>
    exact behaves_setX_jump rfl (fun _ _ => rfl) (fun _ _ => rfl) fun s he hpc =>
      getLsbD_zero_add hpc (getLsbD_zero_signExtend (by simpa [evenOffset] using he))
  | jalr rd rs1 imm => exact behaves_setX_jump rfl (fun _ _ => rfl) (fun _ _ => rfl) fun s _ _ => by simp
  | beq | bne | blt | bge | bltu | bgeu => exact behaves_branch _ fun _ _ => rfl
  | fence rd rs1 imm => exact behaves_execFence _ _ rd rs1 imm
  | ecall => exact behaves_takeTrap _ _ _ fun _ => 0#64
  | ebreak => exact behaves_takeTrap _ _ _ id
  | csrrw rd rs1 csr =>
    exact behaves_csrAccess rfl rfl _ (.csrrw rd rs1 csr) rd csr fun s => some (s.getX (reg5 rs1))
  | csrrwi rd zimm csr =>
    exact behaves_csrAccess rfl rfl _ (.csrrwi rd zimm csr) rd csr fun _ => some (zimm.setWidth 64)
  | csrrs | csrrc | csrrsi | csrrci => exact behaves_csrAccess rfl rfl ..
  | _ => cases h

/-- The traits of an unprefixed floating-point word: neither context (R193). -/
def floatTraits (loop : LoopKind) (stores : Bool) : Traits := ⟨loop, .subvl, .default, stores, true, false⟩

/-- What an unprefixed floating-point word does (R193): the operation of its prefixed class, or nothing. -/
theorem execUnprefixedFloat_behaves (w : BitVec 32) :
    ∃ loop stores, Behaves (floatTraits loop stores) true (execUnprefixedFloat w) := by
  have hword {tr : Traits} {m : State → Result} (h : RunsElements tr (form32 w) m) (hv : tr.vltyp = .default)
      (hsv : tr.svlen = .subvl) : Behaves tr true m := h.behaves hv.symm hsv.symm (by simp [form32]) true
  have hmul : Behaves (floatTraits .single false) true (execFusedMul w) :=
    hword (runsElements_runFusedMul rfl rfl rfl ..) rfl rfl
  unfold execUnprefixedFloat
  split
  · exact ⟨.twin, false, hword (runsElements_runLoadFp rfl rfl rfl ..) rfl rfl⟩
  · exact ⟨.twin, true, hword (runsElements_runStoreFp rfl rfl rfl ..) rfl rfl⟩
  · exact ⟨_, _, hmul⟩
  · exact ⟨_, _, hmul⟩
  · exact ⟨_, _, hmul⟩
  · exact ⟨_, _, hmul⟩
  · exact ⟨.single, false, hword (runsElements_runOpFp rfl rfl rfl ..) rfl rfl⟩
  · exact ⟨.none, false, behaves_takeTrap _ _ _ fun _ => w.setWidth 64⟩

end Sys2Proof.Machine
end

section
/-!
PROOFS. What every update keeps, and with it every instruction: the well-formed state, the class frames, the
bound on VL; and the independence of SVPSTATE.
-/

namespace Sys2Proof.Machine

/-! ### Well-formed states -/

/-- The parts of the well-formed state. -/
theorem wf_iff (s : State) :
    s.wf = true ↔ Memory.wf s.mem = true ∧ rising s.stored = true ∧ s.svpRsvd = 0#4 ∧ s.x[0] = 0#64 ∧
      s.pc.getLsbD 0 = false := by
  simp [State.wf, and_assoc]

/-- The reserved bits of SVPSTATE are unsupported in every CSR write (R36). -/
theorem extract_rsvd_of_supported {p : Platform} {v : Word} (h : v &&& unsupportedBits p = 0#64) :
    (v.setWidth 32).extractLsb' 28 4 = 0#4 := by
  have hhigh : v &&& 0xFFFFFFFFF0000000#64 = 0#64 := by
    have hsub : unsupportedBits p &&& 0xFFFFFFFFF0000000#64 = 0xFFFFFFFFF0000000#64 := by
      unfold unsupportedBits
      cases p.vltypSupported <;> cases p.svlenSupported <;> decide
    rw [← hsub, ← BitVec.and_assoc, h, BitVec.zero_and]
  have hfield : (v &&& 0xFFFFFFFFF0000000#64).extractLsb' 28 4 = v.extractLsb' 28 4 := by
    rw [BitVec.extractLsb'_and]
    exact BitVec.and_allOnes
  have hcut : (v.setWidth 32).extractLsb' 28 4 = v.extractLsb' 28 4 := by
    apply BitVec.eq_of_getLsbD_eq
    intro i hi
    simp [BitVec.getLsbD_extractLsb', show 28 + i < 32 by omega]
  rw [hcut, ← hfield, hhigh]
  rfl

/-- Applying VLtyp leaves alone what the well-formed state asks for. -/
theorem wf_applyVLtyp (v : VLtyp) (s : State) : (applyVLtyp v s).wf = s.wf := by
  cases v <;> simp [State.wf, applyVLtyp, writeVLdest]

/-- Every update keeps the well-formed state. -/
theorem Update.wf {tr : Traits} {s t : State} (h : Update tr s t) (hs : s.wf = true) : t.wf = true := by
  cases h with
  | vltyp => rwa [wf_applyVLtyp]
  | subvl => cases hsv : tr.svlen <;> simpa [State.wf, writeSubvl, hsv] using hs
  | srcoffs | destoffs | dsvoffs | writeX | writeF | accrue => simpa [State.wf] using hs
  | store _ hw =>
    obtain ⟨-, -, rfl⟩ := memWrite_ok hw
    obtain ⟨hmem, hstored, hrest⟩ := (wf_iff s).1 hs
    exact (wf_iff _).2 ⟨wf_writeLE _ _ _ _ hmem, rising_markStored _ _ _ hstored, by simpa using hrest⟩
  | csr _ v hv =>
    obtain ⟨hmem, hstored, -, hrest⟩ := (wf_iff s).1 hs
    exact (wf_iff _).2 ⟨hmem, hstored, extract_rsvd_of_supported hv, hrest⟩

/-- No update changes the platform. -/
theorem Update.platform {tr : Traits} {s t : State} (h : Update tr s t) : t.platform = s.platform := by
  cases h with
  | vltyp => cases tr.vltyp <;> simp [applyVLtyp, writeVLdest]
  | subvl => cases tr.svlen <;> simp [writeSubvl]
  | store _ hw => obtain ⟨-, -, rfl⟩ := memWrite_ok hw; rfl
  | srcoffs | destoffs | dsvoffs | writeX | writeF | accrue | csr => simp

/-- Every end keeps the well-formed state, for an offset that is even. -/
theorem Ends.wf {s t : State} (h : Ends true s t) (hs : s.wf = true) : t.wf = true := by
  cases h with
  | raises => simpa [State.wf] using hs
  | moves pc' hpc =>
    obtain ⟨hmem, hstored, hrsvd, hx, heven⟩ := (wf_iff s).1 hs
    exact (wf_iff _).2 ⟨hmem, hstored, hrsvd, hx, hpc rfl heven⟩

theorem Ends.platform {even : Bool} {s t : State} (h : Ends even s t) : t.platform = s.platform := by
  cases h <;> rfl

/-- An instruction whose offset is even keeps the well-formed state and the platform. -/
theorem Answers.wf {tr : Traits} {s t : State} {r : Result} (h : Answers tr true s r) (hr : r = .next t)
    (hs : s.wf = true) : t.wf = true ∧ t.platform = s.platform :=
  h.keeps (fun a => a.wf = true ∧ a.platform = s.platform)
    (fun hu ha => ⟨hu.wf ha.1, hu.platform.trans ha.2⟩) (fun he ha => ⟨he.wf ha.1, he.platform.trans ha.2⟩)
    hr ⟨hs, rfl⟩

/-! ### What a step runs -/

/-- An offset whose fixed zero bit stands at its end is even (R131). -/
theorem getLsbD_zero_append {n : Nat} (a : BitVec n) : (a ++ 0#1).getLsbD 0 = false := by
  rw [getLsbD_append_low _ _ _ (by omega)]
  rfl

/-- The base decoder makes the offset of a jump or branch even: each arm of the decoder is looked at. -/
theorem decode32_evenOffset {w : BitVec 32} {i : Instr} (h : decode32 w = .ok i) : evenOffset i = true := by
  unfold decode32 at h
  dsimp only at h
  repeat' split at h
  all_goals cases h
  all_goals simp only [evenOffset, getLsbD_zero_append, Bool.not_false]

/-- What `attach` answers is its constructor applied. -/
theorem attach_ok {α : Type} {fields : Except DecodeError α} {k : α → Instr} {i : Instr}
    (h : attach fields k = .ok i) : ∃ o, i = k o := by
  cases fields with
  | error e => cases h
  | ok o => cases h; exact ⟨o, rfl⟩

/-- An instruction that a field reader completes has the property its constructor gives. -/
theorem evenOffset_attach {α : Type} {fields : Except DecodeError α} {k : α → Instr} {i : Instr}
    (h : attach fields k = .ok i) (hk : ∀ o, evenOffset (k o) = true) : evenOffset i = true := by
  obtain ⟨o, rfl⟩ := attach_ok h
  exact hk o

/-- No P48 form is a jump or branch (R110). -/
theorem attach48_evenOffset {b i : Instr} {p : BitVec 11} (h : attach48 b p = .ok i) :
    evenOffset i = true := by
  cases b with
  | lui | auipc | add | sub | sll | slt | sltu | xor | srl | sra | or | and | addw | subw | sllw | srlw
  | sraw => exact evenOffset_attach h fun _ => rfl
  | _ => cases h <;> rfl

/-- No P64 form is a jump or branch (R111). -/
theorem attach64_evenOffset {b i : Instr} {p : BitVec 11} {u : BitVec 4} {vt : BitVec 12}
    (h : attach64 b p u vt = .ok i) : evenOffset i = true := by
  unfold attach64 at h
  split at h
  · cases h
  cases b with
  | lui | auipc | addi | slti | sltiu | xori | ori | andi | slli | srli | srai | addiw | slliw | srliw
  | sraiw | add | sub | sll | slt | sltu | xor | srl | sra | or | and | addw | subw | sllw | srlw | sraw
  | lb | lh | lw | ld | lbu | lhu | lwu | sb | sh | sw | sd => exact evenOffset_attach h fun _ => rfl
  | _ => cases h

theorem decode48_evenOffset {w : BitVec 48} {i : Instr} (h : decode48 w = .ok i) : evenOffset i = true := by
  unfold decode48 at h
  dsimp only at h
  split_ifs at h
  split at h
  case h_1 | h_2 => cases h; rfl
  case h_8 =>
    split at h
    · cases h
    · exact attach48_evenOffset h
  all_goals exact evenOffset_attach h fun _ => rfl

theorem decode64_evenOffset {w : BitVec 64} {i : Instr} (h : decode64 w = .ok i) : evenOffset i = true := by
  unfold decode64 at h
  dsimp only at h
  split_ifs at h
  split at h
  case h_8 =>
    split at h
    · cases h
    · exact attach64_evenOffset h
  all_goals
    split at h
    · cases h
    · exact evenOffset_attach h fun _ => rfl

/-- A decoded jump or branch has an even offset (R131). -/
theorem decode_evenOffset {w : InstrWord} {i : Instr} (h : decode w = .ok i) : evenOffset i = true := by
  cases w with
  | w32 => exact decode32_evenOffset h
  | w48 => exact decode48_evenOffset h
  | w64 => exact decode64_evenOffset h

/-- A parcel fetch that ends the step in a next state has raised (R342). -/
theorem fetchParcel_next {s t : State} {a : Nat} (h : fetchParcel s a = .error (.next t)) :
    ∃ c v, t = s.takeTrap c v := by
  unfold fetchParcel at h
  split at h
  · cases h
  split at h
  · cases h; exact ⟨_, _, rfl⟩
  split at h
  · cases h
  split at h
  · cases h
  split at h <;> cases h

/-- So has a fetch of the parcels after the first. -/
theorem fetchRest_next {s t : State} {a n : Nat} (h : fetchRest s a n = .error (.next t)) :
    ∃ c v, t = s.takeTrap c v := by
  induction n generalizing a with
  | zero => cases h
  | succ n ih =>
    unfold fetchRest at h
    split at h
    · rename_i r hr
      cases h
      exact fetchParcel_next hr
    · split at h
      · rename_i r hr
        cases h
        exact ih hr
      · cases h

/-- So has a whole fetch, whose first parcel may also be of no instruction (R341). -/
theorem fetch_next {s t : State} (h : fetch s = .error (.next t)) : ∃ c v, t = s.takeTrap c v := by
  unfold fetch at h
  split at h
  · rename_i r hr
    cases h
    exact fetchParcel_next hr
  split at h
  case h_1 | h_2 => cases h; exact ⟨_, _, rfl⟩
  all_goals
    split at h
    · rename_i r hr
      cases h
      exact fetchRest_next hr
    · cases h

/-- A word that decodes to no instruction is illegal or an unprefixed floating-point word (R193, R341). -/
theorem undecodable_cases (w : InstrWord) (e : DecodeError) (s : State) :
    undecodable w e s = illegal w.toWord s ∨ ∃ v, undecodable w e s = execUnprefixedFloat v s := by
  by_cases he : e = .floatBase
  · subst he
    cases w with
    | w32 v => exact .inr ⟨v, rfl⟩
    | w48 | w64 => exact .inl rfl
  · exact .inl (undecodable_illegal (.inr he) w)

/-- What every step that answers a next state does: updates of some instruction, and an end. -/
theorem step_answers (s : State) : ∃ tr, Answers tr true s (step s) := by
  have hfault (f : Fault) : ∃ tr, Answers tr true s (.fault f) :=
    ⟨floatTraits .none false, fun _ h => by cases h⟩
  have hrefused (e : Refusal) : ∃ tr, Answers tr true s (.refused e) :=
    ⟨floatTraits .none false, fun _ h => by cases h⟩
  have htrap (c : Cause) (v : Word) : ∃ tr, Answers tr true s (.next (s.takeTrap c v)) :=
    ⟨floatTraits .none false, answers_takeTrap _ _ _ _ _⟩
  unfold step
  split
  · exact hfault _
  split
  · exact hrefused _
  split
  · rename_i r hr
    cases r with
    | next t =>
      obtain ⟨c, v, rfl⟩ := fetch_next hr
      exact htrap c v
    | fault f => exact hfault f
    | refused e => exact hrefused e
  · rename_i w hw
    split
    · rename_i e he
      obtain h | ⟨v, h⟩ := undecodable_cases w e s
      · exact h ▸ htrap _ _
      · obtain ⟨loop, stores, hb⟩ := execUnprefixedFloat_behaves v
        exact ⟨_, h ▸ hb.answers s⟩
    · rename_i i hi
      exact ⟨traitsOf i, decode_evenOffset hi ▸ (exec_behaves i).answers s⟩

/-- Settles O54: every update and every end keeps the well-formed state. -/
theorem stepKeepsWellFormed : Obligations.StepKeepsWellFormed := by
  intro s t hs ht
  obtain ⟨tr, h⟩ := step_answers s
  exact h.wf ht hs

/-! ### Class frames -/

/-- Only a store's updates write memory. -/
theorem Update.mem_stored {tr : Traits} {s t : State} (h : Update tr s t) (hstores : tr.stores = false) :
    t.mem = s.mem ∧ t.stored = s.stored := by
  cases h with
  | vltyp => cases tr.vltyp <;> simp [applyVLtyp, writeVLdest]
  | subvl => cases tr.svlen <;> simp [writeSubvl]
  | store hs => simp [hs] at hstores
  | srcoffs | destoffs | dsvoffs | writeX | writeF | accrue | csr => simp

/-- Only a floating-point instruction's updates touch f and fcsr. -/
theorem Update.f_fcsr {tr : Traits} {s t : State} (h : Update tr s t) (hfloat : tr.float = false) :
    t.f = s.f ∧ t.fcsr = s.fcsr := by
  cases h with
  | vltyp => cases tr.vltyp <;> simp [applyVLtyp, writeVLdest]
  | subvl => cases tr.svlen <;> simp [writeSubvl]
  | store _ hw => obtain ⟨-, -, rfl⟩ := memWrite_ok hw; exact ⟨rfl, rfl⟩
  | writeF _ hf | accrue _ hf => simp [hf] at hfloat
  | srcoffs | destoffs | dsvoffs | writeX | csr => simp

/-- Settles O58, update by update. -/
theorem classFrames : Obligations.ClassFrames := by
  refine ⟨fun i s t hstores ht => ?_, fun i s t hfloat ht => ?_⟩
  · refine ((exec_behaves i).answers s).keeps (fun a => a.mem = s.mem ∧ a.stored = s.stored)
      (fun hu ha => ?_) (fun he ha => by cases he <;> simpa using ha) ht ⟨rfl, rfl⟩
    obtain ⟨hmem, hstored⟩ := hu.mem_stored hstores
    exact ⟨hmem.trans ha.1, hstored.trans ha.2⟩
  · refine ((exec_behaves i).answers s).keeps (fun a => a.f = s.f ∧ a.fcsr = s.fcsr)
      (fun hu ha => ?_) (fun he ha => by cases he <;> simpa using ha) ht ⟨rfl, rfl⟩
    obtain ⟨hf, hfcsr⟩ := hu.f_fcsr hfloat
    exact ⟨hf.trans ha.1, hfcsr.trans ha.2⟩

/-! ### The bound on VL -/

/-- The smaller of two is at most the second. -/
theorem toNat_min6_le (a b : BitVec 6) : (min6 a b).toNat ≤ b.toNat := by
  unfold min6
  split
  · rename_i h
    simp only [BitVec.ult, decide_eq_true_eq] at h
    omega
  · exact le_rfl

theorem toNat_minWord6_le (a : Word) (b : BitVec 6) : (minWord6 a b).toNat ≤ b.toNat := by
  unfold minWord6
  split
  · rename_i h
    simp only [BitVec.ult, decide_eq_true_eq, BitVec.toNat_setWidth] at h ⊢
    omega
  · exact le_rfl

/-- MAXVL is a 6-bit field, so only VL ≤ MAXVL is to be kept (R33). -/
theorem vlBounded_iff (s : State) : s.vlBounded = true ↔ s.vl.toNat ≤ s.maxvl.toNat := by
  have := s.maxvl.isLt
  simp only [State.vlBounded, xlen, Bool.and_eq_true, decide_eq_true_eq, and_iff_left_iff_imp]
  omega

/-- Every mode of VLtyp keeps the bound (R303 to R309). -/
theorem vlBounded_applyVLtyp (v : VLtyp) {s : State} (h : s.vlBounded = true) :
    (applyVLtyp v s).vlBounded = true := by
  rw [vlBounded_iff] at *
  cases v with
  | default => exact h
  | vlImm => simpa [applyVLtyp, writeVLdest] using toNat_min6_le ..
  | vlReg => simpa [applyVLtyp, writeVLdest] using toNat_minWord6_le ..
  | mvlVl => simp [applyVLtyp, writeVLdest]
  | mvl => simpa [applyVLtyp, writeVLdest] using toNat_min6_le ..

/-- Every update but a CSR write keeps the bound. -/
theorem Update.vlBounded {tr : Traits} {s t : State} (h : Update tr s t) (hcsr : tr.csr = false)
    (hs : s.vlBounded = true) : t.vlBounded = true := by
  cases h with
  | vltyp => exact vlBounded_applyVLtyp _ hs
  | csr hc => simp [hc] at hcsr
  | subvl =>
    rw [vlBounded_iff] at *
    cases tr.svlen <;> simpa [writeSubvl] using hs
  | store _ hw =>
    obtain ⟨-, -, rfl⟩ := memWrite_ok hw
    simpa [vlBounded_iff] using hs
  | srcoffs | destoffs | dsvoffs | writeX | writeF | accrue => simpa [vlBounded_iff] using hs

theorem Ends.vlBounded {even : Bool} {s t : State} (h : Ends even s t) (hs : s.vlBounded = true) :
    t.vlBounded = true := by
  cases h <;> simpa [vlBounded_iff] using hs

/-- No prefixed instruction is a CSR instruction. -/
theorem csr_of_prefixed {i : Instr} (h : (traitsOf i).loop ≠ .none) : (traitsOf i).csr = false := by
  cases i with
  | csrrw | csrrs | csrrc | csrrwi | csrrsi | csrrci => exact absurd rfl h
  | _ => rfl

/-- Settles O38: VLtyp is the only update of a prefixed instruction that touches VL or MAXVL. -/
theorem vlBoundKept : Obligations.VLBoundKept := by
  intro i s t hloop hs ht
  exact ((exec_behaves i).answers s).keeps (fun a => a.vlBounded = true)
    (fun hu => hu.vlBounded (csr_of_prefixed hloop)) Ends.vlBounded ht hs

/-! ### Independence of SVPSTATE -/

/-- Settles O42: with neither context no update and no operand reads SVPSTATE. -/
theorem scalarIgnoresSvpstate : Obligations.ScalarIgnoresSvpstate := by
  intro i s v hcsr hvltyp hsvlen
  rw [(exec_behaves i).ignoresSvpstate hcsr hvltyp hsvlen]
  cases exec i s <;> rfl

end Sys2Proof.Machine
end

section
/-!
PROOFS. Fetches that raise or are refused: the first parcel that is not read ends the fetch, and with it the
step (10_state.md R26, 60_exceptions.md R342, R351).
-/

namespace Sys2Proof.Machine

/-- Addresses that are backed lie below 2^64 (R40). -/
theorem lt_of_backed {p : Platform} {a : Nat} (h : backed p a = true) : a < 2 ^ 64 := by
  simp only [backed, Bool.and_eq_true, decide_eq_true_eq] at h
  exact h.1

/-- An even pc leaves room for a byte above it. -/
theorem toNat_even {a : Word} (h : a.getLsbD 0 = false) : a.toNat % 2 = 0 := by
  simpa [BitVec.getLsbD] using h

/-- Every parcel of placed bytes is read (R50). -/
theorem fetchParcel_of_placed {s : State} {a : Nat} {bs : List Byte} (h : Placed s a bs) (j : Nat)
    (hj : 2 * j + 1 < bs.length) :
    fetchParcel s (a + 2 * j) = .ok (parcelOf bs[2 * j] bs[2 * j + 1]) := by
  obtain ⟨hlo, hblo, hslo⟩ := h (2 * j) (by omega)
  obtain ⟨hhi, hbhi, hshi⟩ := h (2 * j + 1) hj
  exact fetchParcel_placed (lt_of_backed hbhi) hblo hbhi hslo hshi hlo hhi

/-- The count of parcels by the length the first parcel names (R71). -/
theorem parcelCount_eq (p : BitVec 16) :
    parcelCount p =
      match lengthOf p with
      | .sixteen => 1
      | .l32 => 2
      | .l48 => 3
      | .l64 => 4
      | .longer => 1 := by
  unfold parcelCount lengthOf
  split_ifs <;> rfl

/-- A fetch of several parcels ends as the first of them that is not read. -/
theorem fetchRest_error {s : State} {r : Result} {k n a : Nat} (hk : k < n)
    (hread : ∀ j, j < k → ∃ p, fetchParcel s (a + 2 * j) = .ok p)
    (hr : fetchParcel s (a + 2 * k) = .error r) : fetchRest s a n = .error r := by
  induction k generalizing n a with
  | zero =>
    obtain ⟨n, rfl⟩ : ∃ m, n = m + 1 := ⟨n - 1, by omega⟩
    rw [Nat.mul_zero, Nat.add_zero] at hr
    simp [fetchRest, hr]
  | succ k ih =>
    obtain ⟨n, rfl⟩ : ∃ m, n = m + 1 := ⟨n - 1, by omega⟩
    obtain ⟨p, hp⟩ := hread 0 (by omega)
    rw [Nat.mul_zero, Nat.add_zero] at hp
    have hnext (j : Nat) : a + 2 + 2 * j = a + 2 * (j + 1) := by omega
    have hrest : fetchRest s (a + 2) n = .error r :=
      ih (by omega) (fun j hj => hnext j ▸ hread (j + 1) (by omega)) (hnext k ▸ hr)
    simp [fetchRest, hp, hrest]

/-- So does the fetch of an instruction, for the parcels its first one names (R351). -/
theorem fetch_error {s : State} {r : Result} {p : BitVec 16} {k : Nat} (hp : fetchParcel s s.pc.toNat = .ok p)
    (hpos : 0 < k) (hk : k < parcelCount p)
    (hread : ∀ j, j < k → ∃ q, fetchParcel s (s.pc.toNat + 2 * j) = .ok q)
    (hr : fetchParcel s (s.pc.toNat + 2 * k) = .error r) : fetch s = .error r := by
  have hrest {n : Nat} (hn : k < n) : fetchRest s s.pc.toNat n = .error r := fetchRest_error hn hread hr
  rw [parcelCount_eq] at hk
  unfold fetch
  rw [hp]
  cases hl : lengthOf p with
  | sixteen | longer => simp only [hl] at hk; omega
  | l32 | l48 | l64 => simp only [hl] at hk ⊢; rw [hrest hk]

/-- A step whose fetch ends it ends so. -/
theorem step_of_fetch_error {s : State} {r : Result} (ht : s.trap = none) (hpc : s.pc.getLsbD 0 = false)
    (h : fetch s = .error r) : step s = r := by
  unfold step
  rw [ht, h]
  simp only [hpc, Bool.false_eq_true, if_false]

/-- Settles O49: a fetch ends at its first parcel that is not read. -/
theorem fetchFaults : Obligations.FetchFaults := by
  intro s ht hpc
  have heven := toNat_even hpc
  have hlt := s.pc.isLt
  refine ⟨fun hb => ?_, fun lo hi rest k hplaced hlen hk => ?_⟩
  · have hp := fetchParcel_unbacked (s := s) (a := s.pc.toNat) (by omega) hb
    have hf : fetch s = .error (.next (s.takeTrap .instructionAccessFault (BitVec.ofNat 64 s.pc.toNat))) := by
      unfold fetch
      rw [hp]
    rw [step_of_fetch_error ht hpc hf, BitVec.ofNat_toNat, BitVec.setWidth_eq]
    exact traps_takeTrap ..
  · have hlen' : (lo :: hi :: rest).length = 2 * k := by simp [hlen]
    have hread (j : Nat) (hj : j < k) : ∃ p, fetchParcel s (s.pc.toNat + 2 * j) = .ok p :=
      ⟨_, fetchParcel_of_placed hplaced j (by omega)⟩
    have hfirst : fetchParcel s s.pc.toNat = .ok (hi ++ lo) := fetchParcel_of_placed hplaced 0 (by omega)
    have hstep {r : Result} (hr : fetchParcel s (s.pc.toNat + 2 * k) = .error r) : step s = r :=
      step_of_fetch_error ht hpc (fetch_error hfirst (by omega) hk hread hr)
    refine ⟨fun hbelow hb => ?_, fun htop => hstep (fetchParcel_wraps (by omega))⟩
    have haddr : BitVec.ofNat 64 (s.pc.toNat + 2 * k) = s.pc + BitVec.ofNat 64 (2 * k) := by
      rw [BitVec.ofNat_add, BitVec.ofNat_toNat, BitVec.setWidth_eq]
    rw [hstep (fetchParcel_unbacked (by omega) hb), haddr]
    exact traps_takeTrap ..

end Sys2Proof.Machine
end

section
/-!
PROOFS. With VL = 0 no element executes (41_vector_context.md R220): VLtyp, the copy of svlen and the zeroing of
the indices are all an instruction does.
-/

namespace Sys2Proof.Machine

/-- `SameRest` in two stages. -/
theorem SameRest.trans {s t u : State} (h : SameRest s t) (h' : SameRest t u) : SameRest s u := by
  obtain ⟨hf, hfcsr, hmem, hstored, htrap, hplat⟩ := h
  obtain ⟨hf', hfcsr', hmem', hstored', htrap', hplat'⟩ := h'
  exact ⟨hf'.trans hf, hfcsr'.trans hfcsr, fun a => (hmem' a).trans (hmem a), hstored'.trans hstored,
    htrap'.trans htrap, hplat'.trans hplat⟩

/-- What applying VLtyp leaves alone (R303). -/
theorem applyVLtyp_frame (v : VLtyp) (s : State) :
    (applyVLtyp v s).pc = s.pc ∧ (applyVLtyp v s).srcoffs = s.srcoffs ∧ (applyVLtyp v s).destoffs = s.destoffs ∧
      (applyVLtyp v s).subvl = s.subvl ∧ (applyVLtyp v s).dsvoffs = s.dsvoffs ∧
      (applyVLtyp v s).svpRsvd = s.svpRsvd ∧ SameRest s (applyVLtyp v s) := by
  cases v <;> simp [applyVLtyp, writeVLdest, SameRest]

/-- What copying svlen does to subvl and leaves alone (R34). -/
theorem writeSubvl_frame (sv : Svlen) (s : State) :
    (writeSubvl sv s).subvl = (if sv = .subvl then s.subvl else sv.code) ∧ (writeSubvl sv s).pc = s.pc ∧
      (∀ n, (writeSubvl sv s).getX n = s.getX n) ∧ (writeSubvl sv s).vl = s.vl ∧
      (writeSubvl sv s).maxvl = s.maxvl ∧ (writeSubvl sv s).srcoffs = s.srcoffs ∧
      (writeSubvl sv s).destoffs = s.destoffs ∧ (writeSubvl sv s).dsvoffs = s.dsvoffs ∧
      (writeSubvl sv s).svpRsvd = s.svpRsvd ∧ SameRest s (writeSubvl sv s) := by
  cases sv <;> simp [writeSubvl, SameRest, Svlen.code]

/-- The indices a loop of this kind zeroes when it completes (R218). -/
def Form.zeroIndices (fm : Form) (kind : LoopKind) (s : State) : State :=
  match kind with
  | .none => fm.markSingle 0 0 s
  | .single => fm.markSingle 0 0 s
  | .twin => fm.markTwin 0 0 0 s

/-- What zeroing the indices does with a loop context, and leaves alone (R218). -/
theorem zeroIndices_frame {fm : Form} (hctx : fm.ctxVL = true) (kind : LoopKind) (s : State) :
    (fm.zeroIndices kind s).srcoffs = 0#6 ∧
      (fm.zeroIndices kind s).destoffs = (if kind = .twin then 0#6 else s.destoffs) ∧
      (fm.zeroIndices kind s).dsvoffs = (if fm.svlen = .subvl then s.dsvoffs else 0#2) ∧
      (fm.zeroIndices kind s).pc = s.pc ∧ (∀ n, (fm.zeroIndices kind s).getX n = s.getX n) ∧
      (fm.zeroIndices kind s).vl = s.vl ∧ (fm.zeroIndices kind s).maxvl = s.maxvl ∧
      (fm.zeroIndices kind s).subvl = s.subvl ∧ (fm.zeroIndices kind s).svpRsvd = s.svpRsvd ∧
      SameRest s (fm.zeroIndices kind s) := by
  have hsv : fm.ctxSV = true ↔ fm.svlen ≠ .subvl := ctxSV_iff fm
  by_cases h : fm.svlen = .subvl <;>
    cases kind <;>
      simp [Form.zeroIndices, Form.markSingle, Form.markTwin, Form.setSrc, Form.setDest, Form.setSub, hctx, hsv,
        h, SameRest]

/-- With VL = 0 a loop visits no position (R220). -/
theorem IsElementLoop.vlZero {tr : Traits} {fm : Form} {loop : State → LoopResult}
    (h : IsElementLoop tr fm loop) (hctx : fm.ctxVL = true) {s : State} (hvl : s.vl = 0#6) :
    loop s = .ok (fm.zeroIndices tr.loop s) := by
  have hvle : fm.vle s = 0 := by simp [Form.vle, hctx, hvl]
  cases h with
  | single hk => simp [runSingle, hvle, singleLoop, hk, Form.zeroIndices]
  | twin hk => simp [runTwin, hvle, twinLoop, hk, Form.zeroIndices]

/-- A nonzero VLtyp is that of a P64 instruction (R200). -/
theorem prefixed64_of_vltyp {i : Instr} (h : (traitsOf i).vltyp ≠ .default) :
    (traitsOf i).loop ≠ .none ∧ i.ilen = 8 := by
  cases i with
  | p64Lui | p64Auipc | p64Addi | p64Slti | p64Sltiu | p64Xori | p64Ori | p64Andi | p64Slli | p64Srli
  | p64Srai | p64Addiw | p64Slliw | p64Srliw | p64Sraiw | p64Add | p64Sub | p64Sll | p64Slt | p64Sltu
  | p64Xor | p64Srl | p64Sra | p64Or | p64And | p64Addw | p64Subw | p64Sllw | p64Srlw | p64Sraw | p64Lb
  | p64Lh | p64Lw | p64Ld | p64Lbu | p64Lhu | p64Lwu | p64Sb | p64Sh | p64Sw | p64Sd | p64LoadFp
  | p64StoreFp | p64OpFp | p64Madd | p64Msub | p64Nmsub | p64Nmadd => exact ⟨nofun, rfl⟩
  | _ => exact absurd rfl h

/-- At VL = 0 an instruction outside the floating-point classes does steps 2, 3 and 6 of R223 alone. -/
theorem exec_vlZero {i : Instr} {s : State} (hfloat : (traitsOf i).float = false)
    (hv : (traitsOf i).vltyp ≠ .default) (hsup : Supported s.platform (traitsOf i).svlen (traitsOf i).vltyp)
    (hvl : (beginPrefixed (formOf i) s).vl = 0#6) :
    exec i s =
      .next (((formOf i).zeroIndices (traitsOf i).loop (beginPrefixed (formOf i) s)).advance 8) := by
  obtain ⟨hloop, hlen⟩ := prefixed64_of_vltyp hv
  obtain ⟨ok, loop, hok, hel, hm⟩ := exec_runsElements hloop
  have hilen : (formOf i).ilen = 8 := hlen
  have hlegal : (formOf i).legal s.platform = true := (legal_iff _ _).2 hsup
  have hrun := (hel s.pc).vlZero ((ctxVL_iff (formOf i)).2 hv) hvl
  simp [hm, hok hfloat, runPrefixed, hlegal, hrun, hilen]

/-- Settles O39: the three stages of the instruction, one after another. -/
theorem vlZeroRunsNothing : Obligations.VLZeroRunsNothing := by
  intro i s hfloat hv hsup s1 hvl
  obtain ⟨hpc₁, -, hdest₁, hsub₁, hdsv₁, hrsvd₁, hrest₁⟩ := applyVLtyp_frame (traitsOf i).vltyp s
  obtain ⟨hsub₂, hpc₂, hx₂, hvl₂, hmax₂, -, hdest₂, hdsv₂, hrsvd₂, hrest₂⟩ :=
    writeSubvl_frame (traitsOf i).svlen s1
  obtain ⟨hsrc₃, hdest₃, hdsv₃, hpc₃, hx₃, hvl₃, hmax₃, hsub₃, hrsvd₃, hrest₃⟩ :=
    zeroIndices_frame ((ctxVL_iff (formOf i)).2 hv) (traitsOf i).loop (beginPrefixed (formOf i) s)
  have hdest : (beginPrefixed (formOf i) s).destoffs = s.destoffs := hdest₂.trans hdest₁
  have hdsv : (beginPrefixed (formOf i) s).dsvoffs = s.dsvoffs := hdsv₂.trans hdsv₁
  rw [hdest] at hdest₃
  rw [hdsv] at hdsv₃
  rw [hsub₁] at hsub₂
  exact ⟨_, exec_vlZero hfloat hv hsup (hvl₂.trans hvl),
    congrArg (· + 8#64) (hpc₃.trans (hpc₂.trans hpc₁)), fun n => (hx₃ n).trans (hx₂ n),
    hvl₃.trans (hvl₂.trans hvl), hmax₃.trans hmax₂, hsrc₃, hdest₃, hdsv₃, hsub₃.trans hsub₂,
    hrsvd₃.trans (hrsvd₂.trans hrsvd₁), (hrest₁.trans hrest₂).trans hrest₃⟩

end Sys2Proof.Machine
end

section
/-!
PROOFS. x0 (10_state.md R21) and the state after reset (R28, R37, 70_reset_and_hazards.md R382).
-/

namespace Sys2Proof.Machine

/-- Settles O1: every read and write of x0, as a register or as an element's register, goes through R21. -/
theorem x0Hardwired : Obligations.X0Hardwired := by
  refine ⟨fun s v => ⟨s.getX_zero, s.setX_zero v⟩, fun s n k w v hreg => ?_, fun s n v hn => ?_⟩
  · simp [elemRd, elemWr_eq, hreg]
  · simp [State.getX_setX, hn, SameRest]

/-- Settles O52: every field is read from the definition of the state after reset (R382). -/
theorem resetState : Obligations.ResetState :=
  have hfield {lo w : Nat} : (0#32).extractLsb' lo w = 0#w := BitVec.extractLsb'_zero
  fun _ => ⟨rfl, rfl, hfield, hfield, hfield, hfield, hfield, hfield, rfl, rfl, rfl⟩

end Sys2Proof.Machine
end

section
/-!
PROOFS. Memory accesses (20_memory.md R51 to R54, R60): the checks in their order, a stored value byte by byte,
and which bytes an instruction can change (R57, R62).
-/

namespace Sys2Proof.Machine

/-! ### The checks -/

/-- A range is backed when each of its bytes is (R57). -/
theorem backedRange_iff (p : Platform) (a n : Nat) :
    backedRange p a n = true ↔ ∀ k, k < n → backed p (a + k) = true := by
  induction n generalizing a with
  | zero => simp [backedRange]
  | succ n ih =>
    rw [backedRange, Bool.and_eq_true, ih, Nat.forall_lt_succ_left]
    simp only [Nat.add_zero, Nat.add_assoc, Nat.add_comm 1]

/-- A range with a byte that is not backed is not backed. -/
theorem backedRange_eq_false {p : Platform} {a n : Nat} (h : ∃ k, k < n ∧ backed p (a + k) = false) :
    backedRange p a n = false := by
  obtain ⟨k, hk, hb⟩ := h
  rw [Bool.eq_false_iff, Ne, backedRange_iff]
  intro hall
  rw [hall k hk] at hb
  cases hb

/-- Misalignment is the first check of a read (R53). -/
theorem memRead_misaligned {s : State} {a : Word} {n : Nat} (h : a.toNat % n ≠ 0) :
    memRead s a n = .error (.raise .loadAddressMisaligned a) := if_pos h

/-- The map is the second check of a read (R53). -/
theorem memRead_unbacked {s : State} {a : Word} {n : Nat} (h : a.toNat % n = 0)
    (hb : backedRange s.platform a.toNat n = false) :
    memRead s a n = .error (.raise .loadAccessFault a) := by
  simp [memRead, h, hb]

/-- Misalignment is the first check of a write (R54). -/
theorem memWrite_misaligned {s : State} {a : Word} {n : Nat} {v : Quad} (h : a.toNat % n ≠ 0) :
    memWrite s a n v = .error (.raise .storeAddressMisaligned a) := if_pos h

/-- The map is the second check of a write (R54). -/
theorem memWrite_unbacked {s : State} {a : Word} {n : Nat} {v : Quad} (h : a.toNat % n = 0)
    (hb : backedRange s.platform a.toNat n = false) :
    memWrite s a n v = .error (.raise .storeAccessFault a) := by
  simp [memWrite, h, hb]

/-! ### Values and their bytes -/

/-- `v` is the little-endian value of the `n` bytes of memory from `a` upward (R51). -/
def HoldsLE (m : Memory) (a n : Nat) (v : Quad) : Prop :=
  (∀ k, k < n → Memory.read m (a + k) = some (v.extractLsb' (8 * k) 8)) ∧
    ∀ b, 8 * n ≤ b → v.getLsbD b = false

/-- The bytes of a value above its lowest one are those of the value shifted down. -/
theorem extract_ushiftRight (v : Quad) (k : Nat) :
    (v >>> 8).extractLsb' (8 * k) 8 = v.extractLsb' (8 * (k + 1)) 8 := by
  apply BitVec.eq_of_getLsbD_eq
  intro i hi
  rw [BitVec.getLsbD_extractLsb', BitVec.getLsbD_extractLsb', BitVec.getLsbD_ushiftRight,
    show 8 + (8 * k + i) = 8 * (k + 1) + i by omega]

/-- A value put together from its lowest byte and the rest. -/
theorem shiftLeft_or_byte (v : Quad) : (v >>> 8) <<< 8 ||| (v.extractLsb' 0 8).setWidth 128 = v := by
  apply BitVec.eq_of_getLsbD_eq
  intro i hi
  by_cases h : i < 8
  · simp [h, hi]
  · simp [h, hi, show 8 + (i - 8) = i by omega]

/-- The bytes of a byte put below a value that leaves room for it. -/
theorem ushiftRight_shiftLeft_or_byte {v : Quad} (b : Byte) (h : ∀ i, 120 ≤ i → v.getLsbD i = false) :
    (v <<< 8 ||| b.setWidth 128) >>> 8 = v ∧ (v <<< 8 ||| b.setWidth 128).extractLsb' 0 8 = b := by
  constructor <;> apply BitVec.eq_of_getLsbD_eq <;> intro i hi
  · by_cases h120 : i < 120
    · simp [show 8 + i < 128 by omega, -BitVec.getLsbD_eq_getElem]
    · simp [h i (by omega)]
  · simp [hi, show i < 128 by omega]

/-- A read of bytes that hold a value answers it (R51). -/
theorem readLE_of_holdsLE {m : Memory} {a n : Nat} {v : Quad} (h : HoldsLE m a n v) : readLE m a n = .ok v := by
  induction n generalizing a v with
  | zero =>
    have hv : v = 0#128 := BitVec.eq_of_getLsbD_eq fun i _ => by simpa using h.2 i (by omega)
    rw [hv, readLE]
  | succ n ih =>
    obtain ⟨hbytes, hhigh⟩ := h
    have hlow : Memory.read m a = some (v.extractLsb' 0 8) := hbytes 0 (by omega)
    have hrest : readLE m (a + 1) n = .ok (v >>> 8) := by
      refine ih ⟨fun k hk => ?_, fun b hb => ?_⟩
      · rw [extract_ushiftRight, Nat.add_assoc, Nat.add_comm 1]
        exact hbytes (k + 1) (by omega)
      · rw [BitVec.getLsbD_ushiftRight]
        exact hhigh _ (by omega)
    simp only [readLE, hlow, hrest, shiftLeft_or_byte]

/-- At most 16 bytes, each with a value, hold a value together. -/
theorem exists_holdsLE {m : Memory} {a n : Nat} (hn : n ≤ 16)
    (h : ∀ k, k < n → ∃ b, Memory.read m (a + k) = some b) : ∃ v, HoldsLE m a n v := by
  induction n generalizing a with
  | zero => exact ⟨0#128, by simp [HoldsLE]⟩
  | succ n ih =>
    obtain ⟨b, hb⟩ := h 0 (by omega)
    obtain ⟨v, hbytes, hhigh⟩ := ih (a := a + 1) (by omega) fun k hk => by
      rw [Nat.add_assoc, Nat.add_comm 1]
      exact h (k + 1) (by omega)
    obtain ⟨hshift, hbyte⟩ := ushiftRight_shiftLeft_or_byte b fun i hi => hhigh i (by omega)
    refine ⟨v <<< 8 ||| b.setWidth 128, fun k hk => ?_, fun i hi => ?_⟩
    · cases k with
      | zero => rw [hb, hbyte]
      | succ k =>
        rw [← extract_ushiftRight, hshift, ← hbytes k (by omega), Nat.add_assoc, Nat.add_comm 1]
    · obtain ⟨i, rfl⟩ : ∃ j, i = 8 + j := ⟨i - 8, by omega⟩
      rw [← BitVec.getLsbD_ushiftRight, hshift]
      exact hhigh i (by omega)

/-- Bytes just written hold the low part of the value (R60). -/
theorem holdsLE_writeLE (m : Memory) (a n : Nat) (v : Quad) :
    HoldsLE (writeLE m a n v) a n ((v.setWidth (8 * n)).setWidth 128) := by
  refine ⟨fun k hk => ?_, fun b hb => by simp; omega⟩
  rw [read_writeLE_inside m a n v k hk]
  congr 1
  apply BitVec.eq_of_getLsbD_eq
  intro i hi
  have hin : 8 * k + i < 8 * n := by omega
  by_cases hlt : 8 * k + i < 128
  · simp [hi, hin, hlt]
  · simp [hlt, BitVec.getLsbD_of_ge v _ (Nat.le_of_not_lt hlt)]

/-- A read depends on the bytes of its range alone. -/
theorem readLE_congr {m m' : Memory} {a n : Nat}
    (h : ∀ k, k < n → Memory.read m (a + k) = Memory.read m' (a + k)) : readLE m a n = readLE m' a n := by
  induction n generalizing a with
  | zero => rfl
  | succ n ih =>
    have hlow : Memory.read m a = Memory.read m' a := h 0 (by omega)
    have hrest : readLE m (a + 1) n = readLE m' (a + 1) n := ih fun k hk => by
      rw [Nat.add_assoc, Nat.add_comm 1]
      exact h (k + 1) (by omega)
    rw [readLE, readLE, hlow, hrest]

/-- So does `MemRead`, beside the platform. -/
theorem memRead_congr {s t : State} {a : Word} {n : Nat} (hp : t.platform = s.platform)
    (h : ∀ k, k < n → Memory.read t.mem (a.toNat + k) = Memory.read s.mem (a.toNat + k)) :
    memRead t a n = memRead s a n := by
  rw [memRead, memRead, hp, readLE_congr h]

/-- Settles O5: the two checks in their order, then the bytes put together. -/
theorem memReadMeans : Obligations.MemReadMeans := by
  intro s a n hn
  refine ⟨memRead_misaligned, fun h hb => memRead_unbacked h (backedRange_eq_false hb), fun h hb hbytes => ?_⟩
  obtain ⟨v, hv⟩ := exists_holdsLE (by omega) hbytes
  exact ⟨v, (memRead_eq h ((backedRange_iff ..).2 hb)).trans (readLE_of_holdsLE hv), hv⟩

/-- Settles O6: the two checks in their order, then the store. -/
theorem memWriteMeans : Obligations.MemWriteMeans := by
  intro s a n v _
  refine ⟨memWrite_misaligned, fun h hb => memWrite_unbacked h (backedRange_eq_false hb), fun h hb => ?_⟩
  exact ⟨s.store a n v, memWrite_eq h ((backedRange_iff ..).2 hb), read_writeLE_inside s.mem a.toNat n v,
    read_writeLE_outside s.mem a.toNat n v, rfl, rfl, fun _ => rfl⟩

/-- Settles O7: a store writes its own range and nothing else. -/
theorem memReadAfterWrite : Obligations.MemReadAfterWrite := by
  intro s t a n v _ hw
  obtain ⟨halign, hbacked, rfl⟩ := memWrite_ok hw
  refine ⟨?_, fun b m hapart => memRead_congr rfl fun k hk => read_writeLE_outside _ _ _ _ _ (by omega)⟩
  exact (memRead_eq (s := s.store a n v) halign hbacked).trans
    (readLE_of_holdsLE (holdsLE_writeLE s.mem a.toNat n v))

/-! ### The bytes that an instruction changes -/

/-- An update is a store that MemWrite admits, or it leaves memory and the marked addresses alone. -/
theorem Update.mem_cases {tr : Traits} {s t : State} (h : Update tr s t) :
    (t.mem = s.mem ∧ t.stored = s.stored) ∨ ∃ a n v, memWrite s a n v = .ok t := by
  cases h with
  | vltyp => exact .inl (by cases tr.vltyp <;> simp [applyVLtyp, writeVLdest])
  | subvl => exact .inl (by cases tr.svlen <;> simp [writeSubvl])
  | store _ hw => exact .inr ⟨_, _, _, hw⟩
  | srcoffs | destoffs | dsvoffs | writeX | writeF | accrue | csr => exact .inl (by simp)

/-- Since `s` the platform has stayed, and every changed byte is backed and marked as stored to (R54, R62). -/
def ChangesMarked (s t : State) : Prop :=
  t.platform = s.platform ∧
    ∀ a, Memory.read t.mem a ≠ Memory.read s.mem a → backed s.platform a = true ∧ a ∈ t.stored

theorem changesMarked_refl (s : State) : ChangesMarked s s := ⟨rfl, fun _ h => absurd rfl h⟩

/-- A change of neither memory nor marks, nor of the platform, keeps it so. -/
theorem ChangesMarked.congr {s t u : State} (h : ChangesMarked s t) (hp : u.platform = t.platform)
    (hm : u.mem = t.mem) (hs : u.stored = t.stored) : ChangesMarked s u := by
  unfold ChangesMarked
  rw [hp, hm, hs]
  exact h

/-- A store marks the bytes that it changes, and they are backed (R54, R62). -/
theorem ChangesMarked.memWrite {s t u : State} (h : ChangesMarked s t) {a : Word} {n : Nat} {v : Quad}
    (hw : memWrite t a n v = .ok u) : ChangesMarked s u := by
  obtain ⟨hp, hmarked⟩ := h
  obtain ⟨-, hb, rfl⟩ := memWrite_ok hw
  refine ⟨hp, fun b hne => ?_⟩
  rw [State.stored_store, mem_markStored]
  by_cases hin : a.toNat ≤ b ∧ b < a.toNat + n
  · obtain ⟨k, rfl⟩ := Nat.exists_eq_add_of_le hin.1
    exact ⟨hp ▸ (backedRange_iff ..).1 hb k (by omega), .inr hin⟩
  · rw [State.mem_store, read_writeLE_outside _ _ _ _ _ (by omega)] at hne
    obtain ⟨hbacked, hmem⟩ := hmarked b hne
    exact ⟨hbacked, .inl hmem⟩

theorem Update.changesMarked {tr : Traits} {s t u : State} (h : Update tr t u) (hs : ChangesMarked s t) :
    ChangesMarked s u := by
  obtain ⟨hm, hst⟩ | ⟨a, n, v, hw⟩ := h.mem_cases
  · exact hs.congr h.platform hm hst
  · exact hs.memWrite hw

/-- Settles O59: the stores among the updates mark what they change, and the end changes no byte. -/
theorem storesStayInMemMap : Obligations.StoresStayInMemMap := by
  intro i s t a ht hne
  have h : ChangesMarked s t := ((exec_behaves i).answers s).keeps (ChangesMarked s) Update.changesMarked
    (fun he hs => by cases he <;> exact hs.congr rfl rfl rfl) ht (changesMarked_refl s)
  exact h.2 a hne

end Sys2Proof.Machine
end

section
/-!
PROOFS. The decoder undoes the encoder on every well-formed instruction: the fields of each format read back, for
base words (30_encoding.md R72, R131) and for the base words that prefixed words embed (R74, R81, R108 to R111).
-/

namespace Sys2Proof

/-! ### Fields of the base formats (R72, R131) -/

section
variable (imm : BitVec 12) (immU : BitVec 20) (offB : BitVec 13) (offJ : BitVec 21) (shamt5 : BitVec 5)
  (shamt6 f6 : BitVec 6) (f7 : BitVec 7) (rs2 rs1 : BitVec 5) (f3 : BitVec 3) (rd : BitVec 5) (op : BitVec 7)

theorem encR_opcode : (encR f7 rs2 rs1 f3 rd op).extractLsb' 0 7 = op := by
  simp (disch := omega) only [encR, extract_append_low, extract_whole]

theorem encR_rd : (encR f7 rs2 rs1 f3 rd op).extractLsb' 7 5 = rd := by
  simp (disch := omega) only [encR, extract_append_high, extract_append_low, extract_whole, Nat.reduceSub]

theorem encR_funct3 : (encR f7 rs2 rs1 f3 rd op).extractLsb' 12 3 = f3 := by
  simp (disch := omega) only [encR, extract_append_high, extract_append_low, extract_whole, Nat.reduceSub]

theorem encR_rs1 : (encR f7 rs2 rs1 f3 rd op).extractLsb' 15 5 = rs1 := by
  simp (disch := omega) only [encR, extract_append_high, extract_append_low, extract_whole, Nat.reduceSub]

theorem encR_rs2 : (encR f7 rs2 rs1 f3 rd op).extractLsb' 20 5 = rs2 := by
  simp (disch := omega) only [encR, extract_append_high, extract_append_low, extract_whole, Nat.reduceSub]

theorem encR_funct7 : (encR f7 rs2 rs1 f3 rd op).extractLsb' 25 7 = f7 := by
  simp (disch := omega) only [encR, extract_append_high, extract_whole, Nat.reduceSub]

theorem encI_opcode : (encI imm rs1 f3 rd op).extractLsb' 0 7 = op := by
  simp (disch := omega) only [encI, extract_append_low, extract_whole]

theorem encI_rd : (encI imm rs1 f3 rd op).extractLsb' 7 5 = rd := by
  simp (disch := omega) only [encI, extract_append_high, extract_append_low, extract_whole, Nat.reduceSub]

theorem encI_funct3 : (encI imm rs1 f3 rd op).extractLsb' 12 3 = f3 := by
  simp (disch := omega) only [encI, extract_append_high, extract_append_low, extract_whole, Nat.reduceSub]

theorem encI_rs1 : (encI imm rs1 f3 rd op).extractLsb' 15 5 = rs1 := by
  simp (disch := omega) only [encI, extract_append_high, extract_append_low, extract_whole, Nat.reduceSub]

theorem encI_imm : (encI imm rs1 f3 rd op).extractLsb' 20 12 = imm := by
  simp (disch := omega) only [encI, extract_append_high, extract_whole, Nat.reduceSub]

theorem encI_funct6 : (encI (f6 ++ shamt6) rs1 f3 rd op).extractLsb' 26 6 = f6 := by
  simp (disch := omega) only [encI, extract_append_high, extract_whole, Nat.reduceSub]

theorem encI_shamt6 : (encI (f6 ++ shamt6) rs1 f3 rd op).extractLsb' 20 6 = shamt6 := by
  simp (disch := omega) only [encI, extract_append_high, extract_append_low, extract_whole, Nat.reduceSub]

theorem encI_funct7 : (encI (f7 ++ shamt5) rs1 f3 rd op).extractLsb' 25 7 = f7 := by
  simp (disch := omega) only [encI, extract_append_high, extract_whole, Nat.reduceSub]

theorem encI_shamt5 : (encI (f7 ++ shamt5) rs1 f3 rd op).extractLsb' 20 5 = shamt5 := by
  simp (disch := omega) only [encI, extract_append_high, extract_append_low, extract_whole, Nat.reduceSub]

theorem encS_opcode : (encS imm rs2 rs1 f3 op).extractLsb' 0 7 = op := by
  simp (disch := omega) only [encS, extract_append_low, extract_whole]

theorem encS_funct3 : (encS imm rs2 rs1 f3 op).extractLsb' 12 3 = f3 := by
  simp (disch := omega) only [encS, extract_append_high, extract_append_low, extract_whole, Nat.reduceSub]

theorem encS_rs1 : (encS imm rs2 rs1 f3 op).extractLsb' 15 5 = rs1 := by
  simp (disch := omega) only [encS, extract_append_high, extract_append_low, extract_whole, Nat.reduceSub]

theorem encS_rs2 : (encS imm rs2 rs1 f3 op).extractLsb' 20 5 = rs2 := by
  simp (disch := omega) only [encS, extract_append_high, extract_append_low, extract_whole, Nat.reduceSub]

theorem encS_immLow : (encS imm rs2 rs1 f3 op).extractLsb' 7 5 = imm.extractLsb' 0 5 := by
  simp (disch := omega) only [encS, extract_append_high, extract_append_low, extract_whole, Nat.reduceSub]

theorem encS_immHigh : (encS imm rs2 rs1 f3 op).extractLsb' 25 7 = imm.extractLsb' 5 7 := by
  simp (disch := omega) only [encS, extract_append_high, extract_whole, Nat.reduceSub]

theorem encU_opcode : (encU immU rd op).extractLsb' 0 7 = op := by
  simp (disch := omega) only [encU, extract_append_low, extract_whole]

theorem encU_rd : (encU immU rd op).extractLsb' 7 5 = rd := by
  simp (disch := omega) only [encU, extract_append_high, extract_append_low, extract_whole, Nat.reduceSub]

theorem encU_imm : (encU immU rd op).extractLsb' 12 20 = immU := by
  simp (disch := omega) only [encU, extract_append_high, extract_whole, Nat.reduceSub]

theorem encB_opcode : (encB offB rs2 rs1 f3 op).extractLsb' 0 7 = op := by
  simp (disch := omega) only [encB, extract_append_low, extract_whole]

theorem encB_funct3 : (encB offB rs2 rs1 f3 op).extractLsb' 12 3 = f3 := by
  simp (disch := omega) only [encB, extract_append_high, extract_append_low, extract_whole, Nat.reduceSub]

theorem encB_rs1 : (encB offB rs2 rs1 f3 op).extractLsb' 15 5 = rs1 := by
  simp (disch := omega) only [encB, extract_append_high, extract_append_low, extract_whole, Nat.reduceSub]

theorem encB_rs2 : (encB offB rs2 rs1 f3 op).extractLsb' 20 5 = rs2 := by
  simp (disch := omega) only [encB, extract_append_high, extract_append_low, extract_whole, Nat.reduceSub]

theorem encB_off12 : (encB offB rs2 rs1 f3 op).extractLsb' 31 1 = offB.extractLsb' 12 1 := by
  simp (disch := omega) only [encB, extract_append_high, extract_whole, Nat.reduceSub]

theorem encB_off11 : (encB offB rs2 rs1 f3 op).extractLsb' 7 1 = offB.extractLsb' 11 1 := by
  simp (disch := omega) only [encB, extract_append_high, extract_append_low, extract_whole, Nat.reduceSub]

theorem encB_off10to5 : (encB offB rs2 rs1 f3 op).extractLsb' 25 6 = offB.extractLsb' 5 6 := by
  simp (disch := omega) only [encB, extract_append_high, extract_append_low, extract_whole, Nat.reduceSub]

theorem encB_off4to1 : (encB offB rs2 rs1 f3 op).extractLsb' 8 4 = offB.extractLsb' 1 4 := by
  simp (disch := omega) only [encB, extract_append_high, extract_append_low, extract_whole, Nat.reduceSub]

theorem encJ_opcode : (encJ offJ rd op).extractLsb' 0 7 = op := by
  simp (disch := omega) only [encJ, extract_append_low, extract_whole]

theorem encJ_rd : (encJ offJ rd op).extractLsb' 7 5 = rd := by
  simp (disch := omega) only [encJ, extract_append_high, extract_append_low, extract_whole, Nat.reduceSub]

theorem encJ_off20 : (encJ offJ rd op).extractLsb' 31 1 = offJ.extractLsb' 20 1 := by
  simp (disch := omega) only [encJ, extract_append_high, extract_whole, Nat.reduceSub]

theorem encJ_off19to12 : (encJ offJ rd op).extractLsb' 12 8 = offJ.extractLsb' 12 8 := by
  simp (disch := omega) only [encJ, extract_append_high, extract_append_low, extract_whole, Nat.reduceSub]

theorem encJ_off11 : (encJ offJ rd op).extractLsb' 20 1 = offJ.extractLsb' 11 1 := by
  simp (disch := omega) only [encJ, extract_append_high, extract_append_low, extract_whole, Nat.reduceSub]

theorem encJ_off10to1 : (encJ offJ rd op).extractLsb' 21 10 = offJ.extractLsb' 1 10 := by
  simp (disch := omega) only [encJ, extract_append_high, extract_append_low, extract_whole, Nat.reduceSub]

end

/-! ### Base words -/

/-- Every well-formed unprefixed instruction reads back, field by field of its format (R72, R131). -/
theorem decode_encode_base {i : Instr} (h : i.wf = true) (hl : i.ilen = 4) : decode (encode i) = .ok i := by
  cases i with
  | ecall | ebreak => rfl
  | lui | auipc =>
    dsimp only [decode, encode]
    unfold decode32
    rw [encU_opcode, encU_rd, encU_imm]
    rfl
  | add | sub | sll | slt | sltu | xor | srl | sra | or | and | addw | subw | sllw | srlw | sraw =>
    dsimp only [decode, encode]
    unfold decode32
    rw [encR_opcode, encR_rd, encR_funct3, encR_rs1, encR_rs2, encR_funct7]
    rfl
  | addi | slti | sltiu | xori | ori | andi | addiw | lb | lh | lw | ld | lbu | lhu | lwu | jalr | fence
  | csrrw | csrrs | csrrc | csrrwi | csrrsi | csrrci =>
    dsimp only [decode, encode]
    unfold decode32
    rw [encI_opcode, encI_rd, encI_funct3, encI_rs1, encI_imm]
    rfl
  | slli | srli | srai =>
    dsimp only [decode, encode]
    unfold decode32
    rw [encI_opcode, encI_rd, encI_funct3, encI_rs1, encI_funct6, encI_shamt6]
    rfl
  | slliw | srliw | sraiw =>
    dsimp only [decode, encode]
    unfold decode32
    rw [encI_opcode, encI_rd, encI_funct3, encI_rs1, encI_funct7, encI_shamt5]
    rfl
  | sb | sh | sw | sd =>
    dsimp only [decode, encode]
    unfold decode32
    rw [encS_opcode, encS_funct3, encS_rs1, encS_rs2, encS_immHigh, encS_immLow, join_immS]
    rfl
  | beq | bne | blt | bge | bltu | bgeu =>
    dsimp only [decode, encode]
    unfold decode32
    rw [encB_opcode, encB_funct3, encB_rs1, encB_rs2, encB_off12, encB_off11, encB_off10to5, encB_off4to1,
      join_immB _ ((Bool.not_eq_true' _).mp h)]
    rfl
  | jal =>
    dsimp only [decode, encode]
    unfold decode32
    rw [encJ_opcode, encJ_rd, encJ_off20, encJ_off19to12, encJ_off11, encJ_off10to1,
      join_immJ _ ((Bool.not_eq_true' _).mp h)]
    rfl
  | _ => cases hl

/-- The opcodes of the base instructions (R130). -/
def baseOpcodes : List (BitVec 7) :=
  [0b0110111#7, 0b0010111#7, 0b0010011#7, 0b0011011#7, 0b0110011#7, 0b0111011#7, 0b0000011#7, 0b0100011#7,
    0b1101111#7, 0b1100111#7, 0b1100011#7, 0b0001111#7, 0b1110011#7]

/-- A word that decodes has a base opcode (R133). -/
theorem decode32_opcode {w : BitVec 32} {b : Instr} (h : decode32 w = .ok b) :
    w.extractLsb' 0 7 ∈ baseOpcodes := by
  unfold decode32 at h
  dsimp only at h
  split at h
  case h_14 | h_15 | h_16 | h_17 | h_18 | h_19 | h_20 | h_21 => cases h
  all_goals
    rename_i hop
    have hop' := congrArg (BitVec.ofNat 7) hop
    rw [BitVec.ofNat_toNat, BitVec.setWidth_eq] at hop'
    rw [hop']
    decide

/-! ### Prefixed words -/

/-- The two bits that a prefixed word drops, from the opcode of its base word (R74). -/
theorem extract_low_of_opcode {base : BitVec 32} {op : BitVec 7} (h : base.extractLsb' 0 7 = op)
    (hop : op.extractLsb' 0 2 = 0b11#2) : base.extractLsb' 0 2 = 0b11#2 := by
  rw [← extract_extract base 0 7 0 2 (by omega), h, hop]

/-- The five other bits of the opcode. -/
theorem extract_mid_of_opcode {base : BitVec 32} {op : BitVec 7} (h : base.extractLsb' 0 7 = op) :
    base.extractLsb' 2 5 = op.extractLsb' 2 5 := by
  rw [← extract_extract base 0 7 2 5 (by omega), h]

/-- A base opcode ends in 11 (R74). -/
theorem extract_low_of_decode32 {base : BitVec 32} {b : Instr} (h : decode32 base = .ok b) :
    base.extractLsb' 0 2 = 0b11#2 :=
  extract_low_of_opcode rfl
    ((by decide : ∀ op ∈ baseOpcodes, op.extractLsb' 0 2 = 0b11#2) _ (decode32_opcode h))

/-- A base opcode is of no floating-point class (R109). -/
theorem extract_mid_of_decode32 {base : BitVec 32} {b : Instr} (h : decode32 base = .ok b) :
    (base.extractLsb' 2 5).toNat ∉ [0b00001, 0b01001, 0b10100, 0b10000, 0b10001, 0b10010, 0b10011] := by
  rw [extract_mid_of_opcode rfl]
  exact (by decide : ∀ op ∈ baseOpcodes, (op.extractLsb' 2 5).toNat ∉
    [0b00001, 0b01001, 0b10100, 0b10000, 0b10001, 0b10010, 0b10011]) _ (decode32_opcode h)

/-- A P48 word decodes to the P48 form of the instruction that its base word stands for (R74, R108). -/
theorem decode48_of_decode32 {base : BitVec 32} {p : BitVec 11} {b i : Instr} (hb : decode32 base = .ok b)
    (ha : attach48 b p = .ok i) : decode48 (pack48 base p) = .ok i := by
  have hmid := extract_mid_of_decode32 hb
  rw [decode48_pack base p (extract_low_of_decode32 hb), hb]
  split
  case h_8 => exact ha
  all_goals
    rename_i h
    exact absurd (h ▸ hmid) (by decide)

/-- A P64 word decodes to the P64 form of the instruction that its base word stands for (R81, R111). -/
theorem decode64_of_decode32 {base : BitVec 32} {p : BitVec 11} {u : BitVec 4} {v : VLtyp} {b i : Instr}
    (hv : v.wf = true) (hb : decode32 base = .ok b)
    (ha : ∀ vt, VLtyp.ofCode vt = .ok v → attach64 b p u vt = .ok i) :
    decode64 (pack64 u v base p) = .ok i := by
  have hmid := extract_mid_of_decode32 hb
  rw [decode64_pack u v hv base p (extract_low_of_decode32 hb), hb]
  split
  case h_8 => exact ha _ (VLtyp.ofCode_code v hv)
  all_goals
    rename_i h
    exact absurd (h ▸ hmid) (by decide)

/-- Operands that read back go to their constructor. -/
theorem attach_eq {α : Type} {fields : Except DecodeError α} {o : α} (h : fields = .ok o) (k : α → Instr) :
    attach fields k = .ok (k o) := by
  rw [h, attach]

/-- The opcode of an OP-FP base word. -/
theorem FROps.base_opcode {n : Nat} (o : FROps n) : o.base.extractLsb' 0 7 = 0b1010011#7 := encR_opcode ..

/-- The opcode of a fused multiply-add base word. -/
theorem FR4Ops.base_opcode {n : Nat} (o : FR4Ops n) (op : BitVec 7) : (o.base op).extractLsb' 0 7 = op :=
  encR_opcode ..

/-- Every well-formed P48 instruction reads back: its base word's fields, then bits 17:7 (R73 to R76). -/
theorem decode_encode_p48 {i : Instr} (h : i.wf = true) (hl : i.ilen = 6) : decode (encode i) = .ok i := by
  cases i with
  | p48Lui o | p48Auipc o =>
    apply decode48_of_decode32
    · unfold decode32
      rw [encU_opcode, encU_rd, encU_imm]
      rfl
    · exact attach_eq (uOps48_bits o h) _
  | p48Add o | p48Sub o | p48Sll o | p48Slt o | p48Sltu o | p48Xor o | p48Srl o | p48Sra o | p48Or o
  | p48And o | p48Addw o | p48Subw o | p48Sllw o | p48Srlw o | p48Sraw o =>
    apply decode48_of_decode32
    · unfold decode32
      rw [encR_opcode, encR_rd, encR_funct3, encR_rs1, encR_rs2, encR_funct7]
      rfl
    · exact attach_eq (rOps48_bits o h) _
  | p48Addi o | p48Slti o | p48Sltiu o | p48Xori o | p48Ori o | p48Andi o | p48Addiw o | p48Lb o | p48Lh o
  | p48Lw o | p48Ld o | p48Lbu o | p48Lhu o | p48Lwu o =>
    conv_rhs => rw [← iOps48_bits o]
    apply decode48_of_decode32
    · unfold decode32
      rw [encI_opcode, encI_rd, encI_funct3, encI_rs1, encI_imm]
      rfl
    · rfl
  | p48Slli o | p48Srli o | p48Srai o =>
    conv_rhs => rw [← iOps48_bits o]
    apply decode48_of_decode32
    · unfold decode32
      rw [encI_opcode, encI_rd, encI_funct3, encI_rs1, encI_funct6, encI_shamt6]
      rfl
    · rfl
  | p48Slliw o | p48Srliw o | p48Sraiw o =>
    conv_rhs => rw [← iOps48_bits o]
    apply decode48_of_decode32
    · unfold decode32
      rw [encI_opcode, encI_rd, encI_funct3, encI_rs1, encI_funct7, encI_shamt5]
      rfl
    · rfl
  | p48Sb o | p48Sh o | p48Sw o | p48Sd o =>
    conv_rhs => rw [← sOps48_bits o]
    apply decode48_of_decode32
    · unfold decode32
      rw [encS_opcode, encS_funct3, encS_rs1, encS_rs2, encS_immHigh, encS_immLow, join_immS]
      rfl
    · rfl
  | p48LoadFp o =>
    conv_rhs => rw [← iOps48_bits o]
    dsimp only [decode, encode]
    rw [decode48_pack _ _ (extract_low_of_opcode (encI_opcode ..) rfl), extract_mid_of_opcode (encI_opcode ..),
      encI_rd, encI_funct3, encI_rs1, encI_imm]
    rfl
  | p48StoreFp o =>
    conv_rhs => rw [← sOps48_bits o]
    dsimp only [decode, encode]
    rw [decode48_pack _ _ (extract_low_of_opcode (encS_opcode ..) rfl), extract_mid_of_opcode (encS_opcode ..),
      encS_funct3, encS_rs1, encS_rs2, encS_immHigh, encS_immLow, join_immS]
    rfl
  | p48OpFp o =>
    dsimp only [decode, encode]
    rw [decode48_pack _ _ (extract_low_of_opcode o.base_opcode rfl), extract_mid_of_opcode o.base_opcode]
    exact attach_eq (frOps48_bits o) _
  | p48Madd o | p48Msub o | p48Nmsub o | p48Nmadd o =>
    dsimp only [decode, encode]
    rw [decode48_pack _ _ (extract_low_of_opcode (o.base_opcode _) rfl), extract_mid_of_opcode (o.base_opcode _)]
    exact attach_eq (fr4Ops48_bits o _) _
  | _ => cases hl

/-- The last of bits 63:60 of an R format (R82). -/
theorem getLsbD_append_ofBool {n : Nat} (a : BitVec n) (b : Bool) : (a ++ BitVec.ofBool b).getLsbD 0 = b := by
  rw [getLsbD_append_low _ _ _ (by omega), ofBool_bit0]

/-- Every well-formed P64 instruction reads back: its base word's fields, VLtyp, bits 63:60 and bits 17:7 (R80 to
R83, R106). -/
theorem decode_encode_p64 {i : Instr} (h : i.wf = true) (hl : i.ilen = 8) : decode (encode i) = .ok i := by
  cases i with
  | p64Lui o | p64Auipc o =>
    obtain ⟨hp, hv⟩ := Bool.and_eq_true_iff.1 h
    apply decode64_of_decode32 hv
    · unfold decode32
      rw [encU_opcode, encU_rd, encU_imm]
      rfl
    · intro vt hvt
      unfold attach64
      rw [hvt]
      exact attach_eq (uOps64_bits o hp) _
  | p64Add o vd | p64Sub o vd | p64Sll o vd | p64Slt o vd | p64Sltu o vd | p64Xor o vd | p64Srl o vd
  | p64Sra o vd | p64Or o vd | p64And o vd | p64Addw o vd | p64Subw o vd | p64Sllw o vd | p64Srlw o vd
  | p64Sraw o vd =>
    obtain ⟨hp, hv⟩ := Bool.and_eq_true_iff.1 h
    conv_rhs => rw [← getLsbD_append_ofBool (bit6 o.rd ++ bit6 o.rs1 ++ bit6 o.rs2) vd]
    apply decode64_of_decode32 hv
    · unfold decode32
      rw [encR_opcode, encR_rd, encR_funct3, encR_rs1, encR_rs2, encR_funct7]
      rfl
    · intro vt hvt
      unfold attach64
      rw [hvt]
      exact attach_eq (rOps64_bits o vd hp) _
  | p64Addi o | p64Slti o | p64Sltiu o | p64Xori o | p64Ori o | p64Andi o | p64Addiw o | p64Lb o | p64Lh o
  | p64Lw o | p64Ld o | p64Lbu o | p64Lhu o | p64Lwu o =>
    apply decode64_of_decode32 h
    · unfold decode32
      rw [encI_opcode, encI_rd, encI_funct3, encI_rs1, encI_imm]
      rfl
    · intro vt hvt
      unfold attach64
      rw [hvt]
      exact attach_eq (iOps64_bits o) _
  | p64Slli o | p64Srli o | p64Srai o =>
    apply decode64_of_decode32 h
    · unfold decode32
      rw [encI_opcode, encI_rd, encI_funct3, encI_rs1, encI_funct6, encI_shamt6]
      rfl
    · intro vt hvt
      unfold attach64
      rw [hvt]
      exact attach_eq (iOps64_bits o) _
  | p64Slliw o | p64Srliw o | p64Sraiw o =>
    apply decode64_of_decode32 h
    · unfold decode32
      rw [encI_opcode, encI_rd, encI_funct3, encI_rs1, encI_funct7, encI_shamt5]
      rfl
    · intro vt hvt
      unfold attach64
      rw [hvt]
      exact attach_eq (iOps64_bits o) _
  | p64Sb o | p64Sh o | p64Sw o | p64Sd o =>
    apply decode64_of_decode32 h
    · unfold decode32
      rw [encS_opcode, encS_funct3, encS_rs1, encS_rs2, encS_immHigh, encS_immLow, join_immS]
      rfl
    · intro vt hvt
      unfold attach64
      rw [hvt]
      exact attach_eq (sOps64_bits o) _
  | p64LoadFp o =>
    dsimp only [decode, encode]
    rw [decode64_pack _ _ h _ _ (extract_low_of_opcode (encI_opcode ..) rfl),
      extract_mid_of_opcode (encI_opcode ..), encI_rd, encI_funct3, encI_rs1, encI_imm]
    exact attach_eq (iOps64_bits o) _
  | p64StoreFp o =>
    dsimp only [decode, encode]
    rw [decode64_pack _ _ h _ _ (extract_low_of_opcode (encS_opcode ..) rfl),
      extract_mid_of_opcode (encS_opcode ..), encS_funct3, encS_rs1, encS_rs2, encS_immHigh, encS_immLow,
      join_immS]
    exact attach_eq (sOps64_bits o) _
  | p64OpFp o vd =>
    conv_rhs => rw [← getLsbD_append_ofBool (bit6 o.rd ++ bit6 o.rs1 ++ bit6 o.rs2) vd]
    dsimp only [decode, encode]
    rw [decode64_pack _ _ h _ _ (extract_low_of_opcode o.base_opcode rfl), extract_mid_of_opcode o.base_opcode]
    exact attach_eq (frOps64_bits o vd) _
  | p64Madd o | p64Msub o | p64Nmsub o | p64Nmadd o =>
    dsimp only [decode, encode]
    rw [decode64_pack _ _ h _ _ (extract_low_of_opcode (o.base_opcode _) rfl),
      extract_mid_of_opcode (o.base_opcode _)]
    exact attach_eq (fr4Ops64_bits o _) _
  | _ => cases hl

/-- Every instruction is of 4, 6 or 8 bytes (R70). -/
theorem ilen_cases (i : Instr) : i.ilen = 4 ∨ i.ilen = 6 ∨ i.ilen = 8 := by
  unfold Instr.ilen
  cases encode i <;> simp [InstrWord.ilen]

/-- The decoder undoes the encoder on well-formed instructions. -/
theorem decode_encode {i : Instr} (h : i.wf = true) : decode (encode i) = .ok i := by
  obtain hl | hl | hl := ilen_cases i
  · exact decode_encode_base h hl
  · exact decode_encode_p48 h hl
  · exact decode_encode_p64 h hl

end Sys2Proof
end

section
/-!
PROOFS. The fetch of an instruction whose bytes lie at the pc (20_memory.md R50, 30_encoding.md R71), and the step
that runs it.
-/

namespace Sys2Proof.Machine

/-! ### Parcels of placed bytes -/

/-- The parcel of the two lowest bytes (R50). -/
theorem parcelOf_bytes (w : Word) : parcelOf (w.setWidth 8) ((w >>> 8).setWidth 8) = w.setWidth 16 := by
  apply BitVec.eq_of_getLsbD_eq
  intro i hi
  unfold parcelOf
  rw [BitVec.getLsbD_append]
  by_cases h : i < 8
  · simp [h, hi]
  · simp [h, hi, show i - 8 < 8 by omega, show 8 + (i - 8) = i by omega]

/-- The low part of a word put together from its lowest parcel and the part above. -/
theorem shiftLeft_or_parcel (w : Word) (n : Nat) :
    ((w >>> 16).setWidth (16 * n)).setWidth 64 <<< 16 ||| (w.setWidth 16).setWidth 64 =
      (w.setWidth (16 * (n + 1))).setWidth 64 := by
  apply BitVec.eq_of_getLsbD_eq
  intro i hi
  by_cases h : i < 16
  · simp [h, hi, show i < 16 * (n + 1) by omega, -BitVec.getLsbD_eq_getElem]
  · have hcut : i - 16 < 16 * n ↔ i < 16 * (n + 1) := by omega
    simp [h, hi, hcut, show 16 + (i - 16) = i by omega, show i - 16 < 64 by omega, -BitVec.getLsbD_eq_getElem]

/-- What is placed above the first parcel. -/
theorem Placed.tail {s : State} {a : Nat} {lo hi : Byte} {bs : List Byte} (h : Placed s a (lo :: hi :: bs)) :
    Placed s (a + 2) bs := by
  intro k hk
  rw [Nat.add_assoc, Nat.add_comm 2]
  exact h (k + 2) (by simpa using hk)

/-- The first parcel of a placed word (R50). -/
theorem fetchParcel_of_placed_word {s : State} {a n : Nat} {w : Word}
    (h : Placed s a (bytesOf (2 * (n + 1)) w)) : fetchParcel s a = .ok (w.setWidth 16) :=
  (fetchParcel_of_placed h 0 (by simp [Nat.mul_succ, bytesOf])).trans (congrArg _ (parcelOf_bytes w))

/-- The placed bytes of a word read back as its low part (R50). -/
theorem fetchRest_of_placed {s : State} {a n : Nat} {w : Word} (h : Placed s a (bytesOf (2 * n) w)) :
    fetchRest s a n = .ok ((w.setWidth (16 * n)).setWidth 64) := by
  induction n generalizing a w with
  | zero => rw [fetchRest, BitVec.of_length_zero (x := w.setWidth _)]; rfl
  | succ n ih =>
    have hrest : fetchRest s (a + 2) n = .ok (((w >>> 16).setWidth (16 * n)).setWidth 64) := by
      rw [BitVec.shiftRight_add w 8 8]
      exact ih (Placed.tail h)
    simp only [fetchRest, fetchParcel_of_placed_word h, hrest, shiftLeft_or_parcel]

/-! ### The length of a decoded word -/

/-- The length depends on bits 6:0 alone (R71). -/
theorem lengthOf_congr {p q : BitVec 16} (h : p.extractLsb' 0 7 = q.extractLsb' 0 7) : lengthOf p = lengthOf q := by
  have hfield {lo w : Nat} (hlo : lo + w ≤ 7) : p.extractLsb' lo w = q.extractLsb' lo w := by
    rw [← Nat.zero_add lo, ← extract_extract p 0 7 lo w hlo, h, extract_extract q 0 7 lo w hlo]
  have hbit {k : Nat} (hk : k < 7) : p.getLsbD k = q.getLsbD k := by
    simpa [hk] using congrArg (·.getLsbD k) h
  unfold lengthOf
  rw [hfield (lo := 0) (w := 2) (by omega), hfield (lo := 2) (w := 3) (by omega), hbit (k := 5) (by omega),
    hbit (k := 6) (by omega)]

/-- Bits 6:0 of a word and of its first parcel. -/
theorem extract_setWidth {n m : Nat} (v : BitVec n) (hm : 7 ≤ m) :
    (v.setWidth m).extractLsb' 0 7 = v.extractLsb' 0 7 := by
  apply BitVec.eq_of_getLsbD_eq
  intro i hi
  simp [hi, show i < m by omega]

/-- A base opcode announces 32 bits (R70, R71). -/
theorem lengthOf_w32 {v : BitVec 32} {i : Instr} (h : decode32 v = .ok i) :
    lengthOf (v.setWidth 16) = .l32 := by
  have hlow : (v.setWidth 16).extractLsb' 0 7 = ((v.extractLsb' 0 7).setWidth 16).extractLsb' 0 7 := by
    simp only [extract_setWidth, extract_whole, Nat.reduceLeDiff]
  rw [lengthOf_congr hlow]
  exact (by decide : ∀ op ∈ baseOpcodes, lengthOf (op.setWidth 16) = .l32) _ (decode32_opcode h)

/-- The marker of a P48 word announces 48 bits (R70, R71). -/
theorem lengthOf_w48 {v : BitVec 48} {i : Instr} (h : decode48 v = .ok i) :
    lengthOf (v.setWidth 16) = .l48 := by
  unfold decode48 at h
  dsimp only at h
  split_ifs at h with hmark hbit
  have htop : v.extractLsb' 6 1 = 0#1 := by
    apply BitVec.eq_of_getLsbD_eq
    intro k hk
    obtain rfl : k = 0 := by omega
    simpa using hbit
  have hlow : (v.setWidth 16).extractLsb' 0 7 = 0b0011111#7 := by
    rw [extract_setWidth _ (by omega), ← extract_join v 0 6 1, htop, not_not.1 hmark]
    rfl
  exact lengthOf_congr (q := 0b0011111#16) hlow

/-- The marker of a P64 word announces 64 bits (R70, R71). -/
theorem lengthOf_w64 {v : BitVec 64} {i : Instr} (h : decode64 v = .ok i) : lengthOf (v.setWidth 16) = .l64 := by
  unfold decode64 at h
  dsimp only at h
  split_ifs at h with hmark
  have hlow : (v.setWidth 16).extractLsb' 0 7 = 0b0111111#7 := by
    rw [extract_setWidth _ (by omega), not_not.1 hmark]
  exact lengthOf_congr (q := 0b0111111#16) hlow

/-! ### The instruction at the pc -/

/-- A fetch reads the placed bytes of a word that decodes: its first parcel names the length, the others follow. -/
theorem fetch_of_placed {s : State} {w : InstrWord} {i : Instr} (hd : decode w = .ok i)
    (h : Placed s s.pc.toNat (bytesOf w.ilen w.toWord)) : fetch s = .ok w := by
  unfold fetch
  cases w with
  | w32 v =>
    rw [fetchParcel_of_placed_word (n := 1) h, fetchRest_of_placed (n := 2) h]
    simp [InstrWord.toWord, lengthOf_w32 hd]
  | w48 v =>
    rw [fetchParcel_of_placed_word (n := 2) h, fetchRest_of_placed (n := 3) h]
    simp [InstrWord.toWord, lengthOf_w48 hd]
  | w64 v =>
    rw [fetchParcel_of_placed_word (n := 3) h, fetchRest_of_placed (n := 4) h]
    simp [InstrWord.toWord, lengthOf_w64 hd]

/-- A step on a word that decodes executes its instruction (R388). -/
theorem step_of_fetch_ok {s : State} {w : InstrWord} {i : Instr} (ht : s.trap = none)
    (hpc : s.pc.getLsbD 0 = false) (hf : fetch s = .ok w) (hd : decode w = .ok i) : step s = exec i s := by
  unfold step
  rw [ht, hf]
  simp only [hpc, hd, Bool.false_eq_true, if_false]

/-- Settles O48: the fetch reads the encoded word back and the decoder undoes the encoder. -/
theorem stepRunsEncoded : Obligations.StepRunsEncoded := by
  intro s i hwf ht hpc _ hplaced
  have hd : decode (encode i) = .ok i := decode_encode hwf
  exact step_of_fetch_ok ht hpc (fetch_of_placed hd hplaced) hd

end Sys2Proof.Machine
end

section
/-!
PROOFS. A word that decodes is the encoding of what it decodes to: the fields that a format cuts out of a word put
the word together again, for base words (30_encoding.md R72, R131), bits 17:7 (R76), bits 63:60 (R82, R83) and
VLtyp (R106).
-/

namespace Sys2Proof

/-- Settles O55: base, P48 and P64 instructions each read back. -/
theorem decodeEncode : Obligations.DecodeEncode := fun _ h => decode_encode h

/-- Settles O57: the decoder is run on each word and each code. -/
theorem decodedWords : Obligations.DecodedWords := by
  unfold Obligations.DecodedWords
  refine ⟨?_, ?_, ?_, ?_, ?_, ?_, ?_, ?_, ?_, ?_, ?_, ?_, ?_, ?_, ?_, ?_, ?_, ?_, ?_, ?_, ?_, ?_, ?_, ?_, ?_, ?_, ?_,
    ?_, ?_, ?_, ?_⟩ <;> rfl

/-! ### Fields joined again -/

/-- Two fields that stand side by side are one field. -/
theorem extract_append_extract {n : Nat} (a : BitVec n) {hi lo w w' : Nat} (h : hi = lo + w) :
    a.extractLsb' hi w' ++ a.extractLsb' lo w = a.extractLsb' lo (w' + w) := by
  subst h
  exact extract_join a lo w w'

/-- A field is known by its number. -/
theorem extract_eq_of_toNat {n m lo : Nat} {w : BitVec n} {f : BitVec m} (h : (w.extractLsb' lo m).toNat = f.toNat) :
    w.extractLsb' lo m = f := BitVec.eq_of_toNat_eq h

section
variable {w : BitVec 32} {op : BitVec 7} {f3 : BitVec 3} {f6 : BitVec 6} {f7 : BitVec 7}

/-- The fields of an R-type word (R72). -/
theorem encR_fields (hop : w.extractLsb' 0 7 = op) (hf3 : w.extractLsb' 12 3 = f3) (hf7 : w.extractLsb' 25 7 = f7) :
    encR f7 (w.extractLsb' 20 5) (w.extractLsb' 15 5) f3 (w.extractLsb' 7 5) op = w := by
  subst hop hf3 hf7
  simp (disch := omega) only [encR, extract_append_extract]
  exact extract_whole w

/-- The fields of an I-type word (R72). -/
theorem encI_fields (hop : w.extractLsb' 0 7 = op) (hf3 : w.extractLsb' 12 3 = f3) :
    encI (w.extractLsb' 20 12) (w.extractLsb' 15 5) f3 (w.extractLsb' 7 5) op = w := by
  subst hop hf3
  simp (disch := omega) only [encI, extract_append_extract]
  exact extract_whole w

/-- The fields of a shift by a 6-bit immediate (R143 to R145). -/
theorem encI_fields_shamt6 (hop : w.extractLsb' 0 7 = op) (hf3 : w.extractLsb' 12 3 = f3)
    (hf6 : w.extractLsb' 26 6 = f6) :
    encI (f6 ++ w.extractLsb' 20 6) (w.extractLsb' 15 5) f3 (w.extractLsb' 7 5) op = w := by
  rw [← hf6, extract_append_extract w (show 26 = 20 + 6 from rfl)]
  exact encI_fields hop hf3

/-- The fields of a shift by a 5-bit immediate (R147 to R149). -/
theorem encI_fields_shamt5 (hop : w.extractLsb' 0 7 = op) (hf3 : w.extractLsb' 12 3 = f3)
    (hf7 : w.extractLsb' 25 7 = f7) :
    encI (f7 ++ w.extractLsb' 20 5) (w.extractLsb' 15 5) f3 (w.extractLsb' 7 5) op = w := by
  rw [← hf7, extract_append_extract w (show 25 = 20 + 5 from rfl)]
  exact encI_fields hop hf3

/-- The fields of an S-type word (R72). -/
theorem encS_fields (hop : w.extractLsb' 0 7 = op) (hf3 : w.extractLsb' 12 3 = f3) :
    encS (w.extractLsb' 25 7 ++ w.extractLsb' 7 5) (w.extractLsb' 20 5) (w.extractLsb' 15 5) f3 op = w := by
  subst hop hf3
  simp (disch := omega) only [encS, extract_append_high, extract_append_low, extract_whole, Nat.reduceSub,
    extract_append_extract]

/-- The fields of a U-type word (R72). -/
theorem encU_fields (hop : w.extractLsb' 0 7 = op) : encU (w.extractLsb' 12 20) (w.extractLsb' 7 5) op = w := by
  subst hop
  simp (disch := omega) only [encU, extract_append_extract]
  exact extract_whole w

/-- The fields of a B-type word (R131). -/
theorem encB_fields (hop : w.extractLsb' 0 7 = op) (hf3 : w.extractLsb' 12 3 = f3) :
    encB (w.extractLsb' 31 1 ++ w.extractLsb' 7 1 ++ w.extractLsb' 25 6 ++ w.extractLsb' 8 4 ++ 0#1)
      (w.extractLsb' 20 5) (w.extractLsb' 15 5) f3 op = w := by
  subst hop hf3
  simp (disch := omega) only [encB, extract_append_high, extract_append_low, extract_whole, Nat.reduceSub,
    extract_append_extract]

/-- The fields of a J-type word (R131). -/
theorem encJ_fields (hop : w.extractLsb' 0 7 = op) :
    encJ (w.extractLsb' 31 1 ++ w.extractLsb' 12 8 ++ w.extractLsb' 20 1 ++ w.extractLsb' 21 10 ++ 0#1)
      (w.extractLsb' 7 5) op = w := by
  subst hop
  simp (disch := omega) only [encJ, extract_append_high, extract_append_low, extract_whole, Nat.reduceSub,
    extract_append_extract]
end

/-! ### Base words -/

/-- Every base word that decodes is put together again from its fields (R72, R131), opcode by opcode. -/
theorem encode_decode32 {w : BitVec 32} {i : Instr} (h : decode32 w = .ok i) :
    encode i = .w32 w ∧ i.wf = true := by
  unfold decode32 at h
  dsimp only at h
  split at h
  case h_1 hop | h_2 hop =>  -- LUI, AUIPC
    cases h
    exact ⟨congrArg _ (encU_fields (extract_eq_of_toNat hop)), rfl⟩
  case h_3 hop =>  -- OP-IMM
    split at h
    case h_1 hf3 | h_2 hf3 | h_3 hf3 | h_4 hf3 | h_5 hf3 | h_6 hf3 =>
      cases h
      exact ⟨congrArg _ (encI_fields (extract_eq_of_toNat hop) (extract_eq_of_toNat hf3)), rfl⟩
    case h_7 hf3 | h_8 hf3 =>
      split_ifs at h
      all_goals
        cases h
        exact ⟨congrArg _ (encI_fields_shamt6 (extract_eq_of_toNat hop) (extract_eq_of_toNat hf3) ‹_›), rfl⟩
    case h_9 => cases h
  case h_4 hop =>  -- OP-IMM-32
    split at h
    case h_1 hf3 =>
      cases h
      exact ⟨congrArg _ (encI_fields (extract_eq_of_toNat hop) (extract_eq_of_toNat hf3)), rfl⟩
    case h_2 hf3 | h_3 hf3 =>
      split_ifs at h
      all_goals
        cases h
        exact ⟨congrArg _ (encI_fields_shamt5 (extract_eq_of_toNat hop) (extract_eq_of_toNat hf3) ‹_›), rfl⟩
    case h_4 => cases h
  case h_5 hop | h_6 hop =>  -- OP, OP-32
    repeat' split at h
    all_goals cases h
    all_goals exact ⟨congrArg _ (encR_fields (extract_eq_of_toNat hop) (extract_eq_of_toNat ‹_›) ‹_›), rfl⟩
  case h_7 hop =>  -- LOAD
    split at h
    all_goals cases h
    all_goals exact ⟨congrArg _ (encI_fields (extract_eq_of_toNat hop) (extract_eq_of_toNat ‹_›)), rfl⟩
  case h_8 hop =>  -- STORE
    split at h
    all_goals cases h
    all_goals exact ⟨congrArg _ (encS_fields (extract_eq_of_toNat hop) (extract_eq_of_toNat ‹_›)), rfl⟩
  case h_9 hop =>  -- JAL
    cases h
    exact ⟨congrArg _ (encJ_fields (extract_eq_of_toNat hop)),
      by simp only [Instr.wf, Machine.getLsbD_zero_append, Bool.not_false]⟩
  case h_10 hop | h_12 hop =>  -- JALR, MISC-MEM
    split_ifs at h
    cases h
    exact ⟨congrArg _ (encI_fields (extract_eq_of_toNat hop) ‹_›), rfl⟩
  case h_11 hop =>  -- BRANCH
    split at h
    all_goals cases h
    all_goals
      exact ⟨congrArg _ (encB_fields (extract_eq_of_toNat hop) (extract_eq_of_toNat ‹_›)),
        by simp only [Instr.wf, Machine.getLsbD_zero_append, Bool.not_false]⟩
  case h_13 hop =>  -- SYSTEM
    split at h
    case h_1 =>
      split_ifs at h with hw hw
      all_goals
        cases h
        exact ⟨congrArg _ hw.symm, rfl⟩
    all_goals cases h
    all_goals exact ⟨congrArg _ (encI_fields (extract_eq_of_toNat hop) (extract_eq_of_toNat ‹_›)), rfl⟩
  all_goals cases h

/-! ### Field codes -/

/-- The itype that a code names has that code (R102). -/
theorem Ew.code_ofCode (c : BitVec 2) : (Ew.ofCode c).code = c := by
  revert c; decide

/-- The svlen that a code names has that code (R94). -/
theorem Svlen.code_ofCode (c : BitVec 2) : (Svlen.ofCode c).code = c := by
  revert c; decide

/-- The tpred that a code names has that code (R97). -/
theorem TPred.code_ofCode (c : BitVec 3) : (TPred.ofCode c).code = c := by
  revert c; decide

/-- The pred that a code names has that code (R96). -/
theorem Pred.code_of_ofCode {c : BitVec 3} {p : Pred} (h : Pred.ofCode c = .ok p) : p.code = c := by
  unfold Pred.ofCode at h
  split_ifs at h
  all_goals cases h
  case neg => change 7#3 = c; bv_omega
  all_goals exact Eq.symm ‹_›

/-- A pred read from vitp6, whose top bit is fixed, fits it (R100). -/
theorem Pred.fitsVitp6_of_ofCode {c : BitVec 2} {p : Pred} (h : Pred.ofCode (0#1 ++ c) = .ok p) :
    p.fitsVitp6 = true := by
  have hcode : p.code.extractLsb' 2 1 = 0#1 := by
    rw [Pred.code_of_ofCode h, extract_append_high _ _ _ _ (by omega)]
    exact extract_whole _
  cases p <;> first | rfl | cases hcode

/-- One bit as a field. -/
theorem ofBool_getLsbD {n : Nat} (a : BitVec n) (i : Nat) : BitVec.ofBool (a.getLsbD i) = a.extractLsb' i 1 := by
  apply BitVec.eq_of_getLsbD_eq
  intro k hk
  obtain rfl : k = 0 := by omega
  cases h : a.getLsbD i <;> simp [h]

/-- The VLtyp that a code names has that code and is encodable (R106, R304, R306). -/
theorem VLtyp.code_of_ofCode {c : BitVec 12} {v : VLtyp} (h : VLtyp.ofCode c = .ok v) :
    v.code = c ∧ v.wf = true := by
  have hjoin {t m : BitVec 1} (ht : BitVec.ofBool (c.getLsbD 11) = t) (hm : BitVec.ofBool (c.getLsbD 0) = m) :
      t ++ c.extractLsb' 6 5 ++ c.extractLsb' 1 5 ++ m = c := by
    rw [← ht, ← hm, ofBool_getLsbD, ofBool_getLsbD]
    simp (disch := omega) only [extract_append_extract]
    exact extract_whole c
  unfold VLtyp.ofCode at h
  dsimp only at h
  split_ifs at h with hz htop hlow hlow hf
  all_goals cases h
  · exact ⟨hz.symm, rfl⟩
  · exact ⟨hjoin (by rw [htop]; rfl) (by rw [hlow]; rfl), rfl⟩
  · exact ⟨hjoin (by rw [htop]; rfl) (by rw [Bool.eq_false_iff.2 hlow]; rfl), rfl⟩
  · exact ⟨hjoin (by rw [Bool.eq_false_iff.2 htop]; rfl) (by rw [hlow]; rfl), bne_iff_ne.2 hf⟩
  · have hc := hjoin (t := 0#1) (m := 0#1) (by rw [Bool.eq_false_iff.2 htop]; rfl)
      (by rw [Bool.eq_false_iff.2 hlow]; rfl)
    refine ⟨hc, ?_⟩
    by_contra hwf
    simp only [VLtyp.wf, Bool.not_eq_true', Bool.not_eq_false, Bool.and_eq_true, beq_iff_eq] at hwf
    rw [hwf.1, hwf.2] at hc
    exact hz hc.symm

/-! ### Operand records give back bits 17:7 and what they took from the base word and bits 63:60 -/

theorem lo5_append {m : Nat} (a : BitVec m) (r : BitVec 5) : lo5 (a ++ r) = r := by
  unfold lo5
  rw [extract_append_low _ _ _ _ (by omega), extract_whole]

theorem bit5_append {m : Nat} (a : BitVec m) (b : BitVec 1) (r : BitVec 5) : bit5 (a ++ b ++ r) = b := by
  unfold bit5
  rw [extract_append_high _ _ _ _ (by omega), extract_append_low _ _ _ _ (by omega), extract_whole]

theorem bit5_append_reg6 (b : BitVec 1) (r : BitVec 5) : bit5 (b ++ r) = b := by
  unfold bit5
  rw [extract_append_high _ _ _ _ (by omega), extract_whole]

theorem bit6_append (a b : BitVec 1) (r : BitVec 5) : bit6 (a ++ b ++ r) = a := by
  unfold bit6
  rw [extract_append_high _ _ _ _ (by omega), extract_append_high _ _ _ _ (by omega), extract_whole]

/-- vitp6 of the fields read from it (R100). -/
theorem vitp6_of_fields {p : BitVec 11} {ew : Ew} {pred : Pred} {sv : Svlen}
    (h : vitp6Fields p = .ok (ew, pred, sv)) :
    vitp6 ew pred sv = p.extractLsb' 0 6 ∧ pred.fitsVitp6 = true := by
  unfold vitp6Fields at h
  split at h
  · cases h
  rename_i pr hpr
  cases h
  refine ⟨?_, Pred.fitsVitp6_of_ofCode hpr⟩
  simp (disch := omega) only [vitp6, Ew.code_ofCode, Svlen.code_ofCode, Pred.code_of_ofCode hpr,
    extract_append_low, extract_whole, extract_append_extract]

/-- vitp7 of the fields read from it (R101). -/
theorem vitp7_of_fields (top : BitVec 1) (p : BitVec 11) :
    vitp7Top (tpredField top p) = top ∧
      vitp7Low (Ew.ofCode (p.extractLsb' 4 2)) (tpredField top p) (Svlen.ofCode (p.extractLsb' 0 2)) =
        p.extractLsb' 0 6 := by
  constructor <;>
    simp (disch := omega) only [vitp7Top, vitp7Low, tpredField, Ew.code_ofCode, Svlen.code_ofCode,
      TPred.code_ofCode, extract_append_high, extract_append_low, extract_whole, Nat.reduceSub,
      extract_append_extract]

/-- vtp5 of the fields read from it (R99). -/
theorem vtp5_of_fields {p : BitVec 11} {pred : Pred} (h : Pred.ofCode (p.extractLsb' 2 3) = .ok pred) :
    vtp5 pred (Svlen.ofCode (p.extractLsb' 0 2)) = p.extractLsb' 0 5 := by
  simp (disch := omega) only [vtp5, Pred.code_of_ofCode h, Svlen.code_ofCode, extract_append_extract]

/-- Bits 63:60 from their four bits. -/
theorem extract_bits (u : BitVec 4) :
    u.extractLsb' 3 1 ++ u.extractLsb' 2 1 ++ u.extractLsb' 1 1 ++ u.extractLsb' 0 1 = u := by
  simp (disch := omega) only [extract_append_extract]
  exact extract_whole u

section
variable {rd rs1 rs2 : BitVec 5} {p : BitVec 11} {u : BitVec 4} {base : BitVec 32}

theorem rOps48_fields {o : ROps 6} (h : rOps48 rd rs1 rs2 p = .ok o) :
    lo5 o.rd = rd ∧ lo5 o.rs1 = rs1 ∧ lo5 o.rs2 = rs2 ∧ o.bits17to7 = p ∧ o.pred.fitsVitp6 = true := by
  unfold rOps48 at h
  split at h
  · cases h
  rename_i hf
  cases h
  obtain ⟨hv, hp⟩ := vitp6_of_fields hf
  refine ⟨lo5_append .., lo5_append .., lo5_append .., ?_, hp⟩
  simp (disch := omega) only [ROps.bits17to7, bit5_append_reg6, hv, ofBool_getLsbD, extract_append_extract]
  exact extract_whole p

theorem rOps64_fields {o : ROps 7} (h : rOps64 rd rs1 rs2 p u = .ok o) :
    lo5 o.rd = rd ∧ lo5 o.rs1 = rs1 ∧ lo5 o.rs2 = rs2 ∧ o.bits17to7 = p ∧ o.pred.fitsVitp6 = true ∧
      bit6 o.rd ++ bit6 o.rs1 ++ bit6 o.rs2 ++ BitVec.ofBool (u.getLsbD 0) = u := by
  unfold rOps64 at h
  split at h
  · cases h
  rename_i hf
  cases h
  obtain ⟨hv, hp⟩ := vitp6_of_fields hf
  refine ⟨lo5_append .., lo5_append .., lo5_append .., ?_, hp, ?_⟩
  · simp (disch := omega) only [ROps.bits17to7, bit5_append, hv, ofBool_getLsbD, extract_append_extract]
    exact extract_whole p
  · simp only [bit6_append, ofBool_getLsbD, extract_bits]

theorem iOps48_fields (rd rs1 : BitVec 5) (p : BitVec 11) :
    lo5 (iOps48 rd rs1 p).rd = rd ∧ lo5 (iOps48 rd rs1 p).rs1 = rs1 ∧ (iOps48 rd rs1 p).bits17to7 = p := by
  obtain ⟨htop, hlow⟩ := vitp7_of_fields (p.extractLsb' 8 1) p
  refine ⟨lo5_append .., lo5_append .., ?_⟩
  simp (disch := omega) only [IOps.bits17to7, iOps48, bit5_append_reg6, htop, hlow, ofBool_getLsbD,
    extract_append_extract]
  exact extract_whole p

theorem iOps64_fields {o : IOps 7} (h : iOps64 rd rs1 p u = .ok o) :
    lo5 o.rd = rd ∧ lo5 o.rs1 = rs1 ∧ o.bits17to7 = p ∧ bit6 o.rd ++ bit6 o.rs1 ++ 0#2 = u := by
  unfold iOps64 at h
  split_ifs at h with hu
  cases h
  obtain ⟨htop, hlow⟩ := vitp7_of_fields (p.extractLsb' 8 1) p
  refine ⟨lo5_append .., lo5_append .., ?_, ?_⟩
  · simp (disch := omega) only [IOps.bits17to7, bit5_append, htop, hlow, ofBool_getLsbD, extract_append_extract]
    exact extract_whole p
  · rw [← hu]
    simp (disch := omega) only [bit6_append, extract_append_extract]
    exact extract_whole u

theorem sOps48_fields (rs1 rs2 : BitVec 5) (p : BitVec 11) :
    lo5 (sOps48 rs1 rs2 p).rs1 = rs1 ∧ lo5 (sOps48 rs1 rs2 p).rs2 = rs2 ∧ (sOps48 rs1 rs2 p).bits17to7 = p := by
  obtain ⟨htop, hlow⟩ := vitp7_of_fields (p.extractLsb' 10 1) p
  refine ⟨lo5_append .., lo5_append .., ?_⟩
  simp (disch := omega) only [SOps.bits17to7, sOps48, bit5_append_reg6, htop, hlow, ofBool_getLsbD,
    extract_append_extract]
  exact extract_whole p

theorem sOps64_fields {o : SOps 7} (h : sOps64 rs1 rs2 p u = .ok o) :
    lo5 o.rs1 = rs1 ∧ lo5 o.rs2 = rs2 ∧ o.bits17to7 = p ∧ 0#1 ++ bit6 o.rs1 ++ bit6 o.rs2 ++ 0#1 = u := by
  unfold sOps64 at h
  split_ifs at h with hu
  cases h
  obtain ⟨htop, hlow⟩ := vitp7_of_fields (p.extractLsb' 10 1) p
  obtain ⟨hu3, hu0⟩ := hu
  refine ⟨lo5_append .., lo5_append .., ?_, ?_⟩
  · simp (disch := omega) only [SOps.bits17to7, bit5_append, htop, hlow, ofBool_getLsbD, extract_append_extract]
    exact extract_whole p
  · have hbits := extract_bits u
    rw [hu3, hu0] at hbits
    simp only [bit6_append, hbits]

theorem uOps48_fields {o : UOps 6} (h : uOps48 rd p = .ok o) :
    lo5 o.rd = rd ∧ o.bits17to7 = p ∧ o.pred.fitsVitp6 = true := by
  unfold uOps48 at h
  split_ifs at h with hp
  split at h
  · cases h
  rename_i hf
  cases h
  obtain ⟨hv, hpred⟩ := vitp6_of_fields hf
  refine ⟨lo5_append .., ?_, hpred⟩
  simp (disch := omega) only [UOps.bits17to7, bit5_append_reg6, hv, ofBool_getLsbD, ← hp.1, ← hp.2,
    extract_append_extract]
  exact extract_whole p

theorem uOps64_fields {o : UOps 7} (h : uOps64 rd p u = .ok o) :
    lo5 o.rd = rd ∧ o.bits17to7 = p ∧ o.pred.fitsVitp6 = true ∧ bit6 o.rd ++ 0#3 = u := by
  unfold uOps64 at h
  split_ifs at h with hp
  obtain ⟨hu, hp8, hp6⟩ := hp
  split at h
  · cases h
  rename_i hf
  cases h
  obtain ⟨hv, hpred⟩ := vitp6_of_fields hf
  refine ⟨lo5_append .., ?_, hpred, ?_⟩
  · simp (disch := omega) only [UOps.bits17to7, bit5_append, hv, ofBool_getLsbD, ← hp8, ← hp6,
      extract_append_extract]
    exact extract_whole p
  · simp (disch := omega) only [bit6_append, ← hu, extract_append_extract]
    exact extract_whole u

theorem frOps48_fields {o : FROps 6} (h : frOps48 base p = .ok o) (hop : base.extractLsb' 0 7 = 0b1010011#7) :
    o.base = base ∧ o.bits17to7 = p := by
  unfold frOps48 at h
  split_ifs at h with hp
  split at h
  · cases h
  rename_i hf
  cases h
  constructor
  · simp (disch := omega) only [FROps.base, lo5_append, extract_append_extract]
    exact encR_fields hop rfl rfl
  · simp (disch := omega) only [FROps.bits17to7, bit5_append_reg6, vtp5_of_fields hf, ofBool_getLsbD, ← hp,
      extract_append_extract]
    exact extract_whole p

theorem frOps64_fields {o : FROps 7} (h : frOps64 base p u = .ok o)
    (hop : base.extractLsb' 0 7 = 0b1010011#7) :
    o.base = base ∧ o.bits17to7 = p ∧
      bit6 o.rd ++ bit6 o.rs1 ++ bit6 o.rs2 ++ BitVec.ofBool (u.getLsbD 0) = u := by
  unfold frOps64 at h
  split_ifs at h with hp
  split at h
  · cases h
  rename_i hf
  cases h
  refine ⟨?_, ?_, ?_⟩
  · simp (disch := omega) only [FROps.base, lo5_append, extract_append_extract]
    exact encR_fields hop rfl rfl
  · simp (disch := omega) only [FROps.bits17to7, bit5_append, vtp5_of_fields hf, ofBool_getLsbD, ← hp,
      extract_append_extract]
    exact extract_whole p
  · simp only [bit6_append, ofBool_getLsbD, extract_bits]

theorem fr4Ops48_fields {o : FR4Ops 6} {op : BitVec 7} (h : fr4Ops48 base p = .ok o)
    (hop : base.extractLsb' 0 7 = op) : pack48 (o.base op) o.bits17to7 = pack48 base p := by
  unfold fr4Ops48 at h
  split at h
  · cases h
  rename_i hf
  cases h
  congr 1
  · simp (disch := omega) only [FR4Ops.base, lo5_append, extract_append_extract]
    exact encR_fields hop rfl rfl
  · simp (disch := omega) only [FR4Ops.bits17to7, bit5_append_reg6, vtp5_of_fields hf, ofBool_getLsbD,
      extract_append_extract]
    exact extract_whole p

theorem fr4Ops64_fields {o : FR4Ops 7} {op : BitVec 7} (h : fr4Ops64 base p u = .ok o)
    (hop : base.extractLsb' 0 7 = op) (v : VLtyp) :
    pack64 (bit6 o.rd ++ bit6 o.rs1 ++ bit6 o.rs2 ++ bit6 o.rs3) v (o.base op) o.bits17to7 = pack64 u v base p := by
  unfold fr4Ops64 at h
  split at h
  · cases h
  rename_i hf
  cases h
  congr 1
  · simp only [bit6_append, extract_bits]
  · simp (disch := omega) only [FR4Ops.base, lo5_append, extract_append_extract]
    exact encR_fields hop rfl rfl
  · simp (disch := omega) only [FR4Ops.bits17to7, bit5_append, vtp5_of_fields hf, ofBool_getLsbD,
      extract_append_extract]
    exact extract_whole p

end

/-! ### Prefixed words -/

/-- The operand record that a prefixed form was completed with. -/
theorem attach_ok_fields {α : Type} {fields : Except DecodeError α} {k : α → Instr} {i : Instr}
    (h : attach fields k = .ok i) : ∃ o, fields = .ok o ∧ i = k o := by
  cases fields with
  | error e => cases h
  | ok o => cases h; exact ⟨o, rfl, rfl⟩

/-- The P48 form of a base instruction is encoded as its base word under bits 17:7 (R74, R108). -/
theorem encode_attach48 {b i : Instr} {p : BitVec 11} {base : BitVec 32} (h : attach48 b p = .ok i)
    (hb : encode b = .w32 base) : encode i = .w48 (pack48 base p) ∧ i.wf = true := by
  cases b with
  | lui | auipc =>
    obtain ⟨o, ho, rfl⟩ := attach_ok_fields h
    obtain ⟨hrd, hbits, hpred⟩ := uOps48_fields ho
    cases hb
    simp only [encode, hrd, hbits, Instr.wf, hpred, and_self]
  | add | sub | sll | slt | sltu | xor | srl | sra | or | and | addw | subw | sllw | srlw | sraw =>
    obtain ⟨o, ho, rfl⟩ := attach_ok_fields h
    obtain ⟨hrd, hrs1, hrs2, hbits, hpred⟩ := rOps48_fields ho
    cases hb
    simp only [encode, hrd, hrs1, hrs2, hbits, Instr.wf, hpred, and_self]
  | addi rd rs1 | slti rd rs1 | sltiu rd rs1 | xori rd rs1 | ori rd rs1 | andi rd rs1 | slli rd rs1
  | srli rd rs1 | srai rd rs1 | addiw rd rs1 | slliw rd rs1 | srliw rd rs1 | sraiw rd rs1 | lb rd rs1
  | lh rd rs1 | lw rd rs1 | ld rd rs1 | lbu rd rs1 | lhu rd rs1 | lwu rd rs1 =>
    obtain ⟨hrd, hrs1, hbits⟩ := iOps48_fields rd rs1 p
    cases h
    cases hb
    simp only [encode, hrd, hrs1, hbits, Instr.wf, and_self]
  | sb rs1 rs2 | sh rs1 rs2 | sw rs1 rs2 | sd rs1 rs2 =>
    obtain ⟨hrs1, hrs2, hbits⟩ := sOps48_fields rs1 rs2 p
    cases h
    cases hb
    simp only [encode, hrs1, hrs2, hbits, Instr.wf, and_self]
  | _ => cases h

/-- The P64 form of a base instruction is encoded as its base word under bits 17:7, VLtyp and bits 63:60 (R81,
R111). -/
theorem encode_attach64 {b i : Instr} {p : BitVec 11} {u : BitVec 4} {vt : BitVec 12} {base : BitVec 32}
    (h : attach64 b p u vt = .ok i) (hb : encode b = .w32 base) :
    ∃ v, v.code = vt ∧ encode i = .w64 (pack64 u v base p) ∧ i.wf = true := by
  unfold attach64 at h
  split at h
  · cases h
  rename_i v hv
  obtain ⟨hcode, hwf⟩ := VLtyp.code_of_ofCode hv
  refine ⟨v, hcode, ?_⟩
  cases b with
  | lui | auipc =>
    obtain ⟨o, ho, rfl⟩ := attach_ok_fields h
    obtain ⟨hrd, hbits, hpred, hu⟩ := uOps64_fields ho
    cases hb
    simp only [encode, hrd, hbits, hu, Instr.wf, hpred, hwf, Bool.and_self, and_self]
  | add | sub | sll | slt | sltu | xor | srl | sra | or | and | addw | subw | sllw | srlw | sraw =>
    obtain ⟨o, ho, rfl⟩ := attach_ok_fields h
    obtain ⟨hrd, hrs1, hrs2, hbits, hpred, hu⟩ := rOps64_fields ho
    cases hb
    simp only [encode, hrd, hrs1, hrs2, hbits, hu, Instr.wf, hpred, hwf, Bool.and_self, and_self]
  | addi | slti | sltiu | xori | ori | andi | slli | srli | srai | addiw | slliw | srliw | sraiw | lb | lh | lw
  | ld | lbu | lhu | lwu =>
    obtain ⟨o, ho, rfl⟩ := attach_ok_fields h
    obtain ⟨hrd, hrs1, hbits, hu⟩ := iOps64_fields ho
    cases hb
    simp only [encode, hrd, hrs1, hbits, hu, Instr.wf, hwf, and_self]
  | sb | sh | sw | sd =>
    obtain ⟨o, ho, rfl⟩ := attach_ok_fields h
    obtain ⟨hrs1, hrs2, hbits, hu⟩ := sOps64_fields ho
    cases hb
    simp only [encode, hrs1, hrs2, hbits, hu, Instr.wf, hwf, and_self]
  | _ => cases h

/-- The base word that a prefixed word embeds (R74, R81). -/
def embeddedBase {n : Nat} (w : BitVec n) : BitVec 32 := w.extractLsb' 18 30 ++ 0b11#2

theorem embeddedBase_high {n : Nat} (w : BitVec n) : (embeddedBase w).extractLsb' 2 30 = w.extractLsb' 18 30 := by
  rw [embeddedBase, extract_append_high _ _ _ _ (by omega)]
  exact extract_whole _

/-- The opcode of the embedded base word, from the five bits that a prefixed word keeps of it (R74). -/
theorem embeddedBase_opcode {n : Nat} {w : BitVec n} {op : BitVec 7}
    (h : (w.extractLsb' 18 5).toNat = (op.extractLsb' 2 5).toNat) (hop : op.extractLsb' 0 2 = 0b11#2) :
    (embeddedBase w).extractLsb' 0 7 = op := by
  have hlow : (embeddedBase w).extractLsb' 0 2 = op.extractLsb' 0 2 := by
    rw [embeddedBase, extract_append_low _ _ _ _ (by omega), extract_whole, hop]
  have hmid : (embeddedBase w).extractLsb' 2 5 = op.extractLsb' 2 5 := by
    rw [embeddedBase, extract_append_high _ _ _ _ (by omega), extract_extract _ _ _ _ _ (by omega)]
    exact extract_eq_of_toNat h
  calc (embeddedBase w).extractLsb' 0 7
      = (embeddedBase w).extractLsb' 2 5 ++ (embeddedBase w).extractLsb' 0 2 := (extract_join _ 0 2 5).symm
    _ = op.extractLsb' 2 5 ++ op.extractLsb' 0 2 := by rw [hlow, hmid]
    _ = op := (extract_join op 0 2 5).trans (extract_whole op)

/-- A P48 word is its embedded base word under bits 17:7 and the marker (R73, R74). -/
theorem pack48_of_fields {w : BitVec 48} (h : w.extractLsb' 0 7 = 0b0011111#7) :
    pack48 (embeddedBase w) (w.extractLsb' 7 11) = w := by
  rw [pack48, embeddedBase_high, ← h]
  simp (disch := omega) only [extract_append_extract]
  exact extract_whole w

/-- A P64 word is its embedded base word under bits 17:7, VLtyp, bits 63:60 and the marker (R80 to R82). -/
theorem pack64_of_fields {w : BitVec 64} {v : VLtyp} (h : w.extractLsb' 0 7 = 0b0111111#7)
    (hv : v.code = w.extractLsb' 48 12) :
    pack64 (w.extractLsb' 60 4) v (embeddedBase w) (w.extractLsb' 7 11) = w := by
  rw [pack64, embeddedBase_high, ← h, hv]
  simp (disch := omega) only [extract_append_extract]
  exact extract_whole w

/-- Every P48 word that decodes is put together again (R73 to R76). -/
theorem encode_decode48 {w : BitVec 48} {i : Instr} (h : decode48 w = .ok i) :
    encode i = .w48 w ∧ i.wf = true := by
  unfold decode48 at h
  dsimp only at h
  split_ifs at h with hmark hbit
  have hlow : w.extractLsb' 0 7 = 0b0011111#7 := by
    rw [← extract_join w 0 6 1, not_not.1 hmark, ← ofBool_getLsbD, Bool.eq_false_iff.2 hbit]
    rfl
  rw [← pack48_of_fields hlow]
  rw [← embeddedBase] at h
  split at h
  case h_1 hop =>  -- LOAD-FP
    cases h
    obtain ⟨hrd, hrs1, hbits⟩ := iOps48_fields ((embeddedBase w).extractLsb' 7 5)
      ((embeddedBase w).extractLsb' 15 5) (w.extractLsb' 7 11)
    have hbase := encI_fields (embeddedBase_opcode (op := 0b0000111#7) hop rfl) rfl
    simp only [encode, hrd, hrs1, hbits, hbase, Instr.wf, and_self]
  case h_2 hop =>  -- STORE-FP
    cases h
    obtain ⟨hrs1, hrs2, hbits⟩ := sOps48_fields ((embeddedBase w).extractLsb' 15 5)
      ((embeddedBase w).extractLsb' 20 5) (w.extractLsb' 7 11)
    have hbase := encS_fields (embeddedBase_opcode (op := 0b0100111#7) hop rfl) rfl
    simp only [encode, hrs1, hrs2, hbits, hbase, Instr.wf, and_self]
  case h_3 hop =>  -- OP-FP
    obtain ⟨o, ho, rfl⟩ := attach_ok_fields h
    obtain ⟨hbase, hbits⟩ := frOps48_fields ho (embeddedBase_opcode hop rfl)
    simp only [encode, hbase, hbits, Instr.wf, and_self]
  case h_4 hop | h_5 hop | h_6 hop | h_7 hop =>  -- MADD, MSUB, NMSUB, NMADD
    obtain ⟨o, ho, rfl⟩ := attach_ok_fields h
    refine ⟨congrArg _ (fr4Ops48_fields ho ?_), rfl⟩
    exact embeddedBase_opcode hop rfl
  case h_8 =>
    split at h
    · cases h
    · exact encode_attach48 h (encode_decode32 ‹_›).1

/-- Every P64 word that decodes is put together again (R80 to R83, R106). -/
theorem encode_decode64 {w : BitVec 64} {i : Instr} (h : decode64 w = .ok i) :
    encode i = .w64 w ∧ i.wf = true := by
  unfold decode64 at h
  dsimp only at h
  split_ifs at h with hmark
  rw [← embeddedBase] at h
  split at h
  case h_8 =>
    split at h
    · cases h
    obtain ⟨v, hcode, he⟩ := encode_attach64 h (encode_decode32 ‹_›).1
    rwa [pack64_of_fields (not_not.1 hmark) hcode] at he
  all_goals
    rename_i hop
    split at h
    · cases h
    rename_i v hv
    obtain ⟨hcode, hwf⟩ := VLtyp.code_of_ofCode hv
    obtain ⟨o, ho, rfl⟩ := attach_ok_fields h
    have hw := pack64_of_fields (not_not.1 hmark) hcode
  · obtain ⟨hrd, hrs1, hbits, hu⟩ := iOps64_fields ho  -- LOAD-FP
    have hbase := encI_fields (embeddedBase_opcode (op := 0b0000111#7) hop rfl) rfl
    simp only [encode, hrd, hrs1, hbits, hu, hbase, hw, Instr.wf, hwf, and_self]
  · obtain ⟨hrs1, hrs2, hbits, hu⟩ := sOps64_fields ho  -- STORE-FP
    have hbase := encS_fields (embeddedBase_opcode (op := 0b0100111#7) hop rfl) rfl
    simp only [encode, hrs1, hrs2, hbits, hu, hbase, hw, Instr.wf, hwf, and_self]
  · obtain ⟨hbase, hbits, hu⟩ := frOps64_fields ho (embeddedBase_opcode hop rfl)  -- OP-FP
    simp only [encode, hbase, hbits, hu, hw, Instr.wf, hwf, and_self]
  -- MADD, MSUB, NMSUB, NMADD
  all_goals
    refine ⟨congrArg _ ((fr4Ops64_fields ho ?_ v).trans hw), hwf⟩
    exact embeddedBase_opcode hop rfl

/-- Settles O56: a word of each length is put together again from the fields its decoding reads. -/
theorem encodeDecode : Obligations.EncodeDecode := by
  intro w i h
  cases w with
  | w32 => exact encode_decode32 h
  | w48 => exact encode_decode48 h
  | w64 => exact encode_decode64 h

end Sys2Proof
end

section
/-!
PROOFS. Words that are no instruction: a first parcel of no instruction length (30_encoding.md R71), and a word that
the decoder rejects (40_base_scalar.md R133, R193), raise IllegalInstruction (60_exceptions.md R341).
-/

namespace Sys2Proof.Machine

/-- A first parcel that no instruction begins with has a length that none has (R71). -/
theorem lengthOf_parcelOf {lo hi : Byte} (h : lo.extractLsb' 0 2 ≠ 0b11#2 ∨ lo.extractLsb' 0 7 = 0b1111111#7) :
    lengthOf (parcelOf lo hi) = .sixteen ∨ lengthOf (parcelOf lo hi) = .longer := by
  obtain h | h := h
  · left
    unfold lengthOf parcelOf
    rw [extract_append_low _ _ _ _ (by omega), if_pos h]
  · right
    refine lengthOf_congr (q := 0b1111111#16) ?_
    unfold parcelOf
    rw [extract_append_low _ _ _ _ (by omega), h]
    rfl

/-- A fetch ends at such a parcel, before any later one is read (R341, R351). -/
theorem fetch_of_no_length {s : State} {p : BitVec 16} (hp : fetchParcel s s.pc.toNat = .ok p)
    (hl : lengthOf p = .sixteen ∨ lengthOf p = .longer) : fetch s = .error (illegal (p.setWidth 64) s) := by
  unfold fetch
  rw [hp]
  obtain hl | hl := hl <;> simp only [hl]

/-- The base decoder gives the floating-point opcodes, and no other, the name of their own (R193). -/
theorem opcode_of_floatBase {v : BitVec 32} (h : decode32 v = .error .floatBase) :
    v.extractLsb' 0 7 ∈ [0b0000111#7, 0b0100111#7, 0b1000011#7, 0b1000111#7, 0b1001011#7, 0b1001111#7,
      0b1010011#7] := by
  unfold decode32 at h
  dsimp only at h
  split at h
  case h_14 hop | h_15 hop | h_16 hop | h_17 hop | h_18 hop | h_19 hop | h_20 hop =>
    have hop' := congrArg (BitVec.ofNat 7) hop
    rw [BitVec.ofNat_toNat, BitVec.setWidth_eq] at hop'
    rw [hop']
    decide
  all_goals
    repeat' split at h
    all_goals cases h

/-- A word that decodes to no instruction is illegal, unless it is a floating-point word with `HAS_F` (R341). -/
theorem undecodable_eq_illegal {s : State} {w : InstrWord} {e : DecodeError} (hd : decode w = .error e)
    (hfloat : s.platform.hasF = false ∨ ∀ v : BitVec 32, w = .w32 v → v.extractLsb' 0 7 ∉ [0b0000111#7,
      0b0100111#7, 0b1000011#7, 0b1000111#7, 0b1001011#7, 0b1001111#7, 0b1010011#7]) :
    undecodable w e s = illegal w.toWord s := by
  obtain hF | hop := hfloat
  · exact undecodable_illegal (.inl hF) w
  by_cases he : e = .floatBase
  · subst he
    cases w with
    | w32 v => exact absurd (opcode_of_floatBase hd) (hop v rfl)
    | w48 | w64 => rfl
  · exact undecodable_illegal (.inr he) w

/-- A step on a word that decodes to no instruction. -/
theorem step_of_undecodable {s : State} {w : InstrWord} {e : DecodeError} (ht : s.trap = none)
    (hpc : s.pc.getLsbD 0 = false) (hf : fetch s = .ok w) (hd : decode w = .error e) :
    step s = undecodable w e s := by
  unfold step
  rw [ht, hf]
  simp only [hpc, hd, Bool.false_eq_true, if_false]

/-- Settles O50: the fetch ends at the first parcel, or the decoder rejects the word. -/
theorem illegalWords : Obligations.IllegalWords := by
  refine ⟨fun s lo hi ht hpc hplaced hlo => ?_, fun s w ht hpc hf hno hfloat => ?_⟩
  · have hp : fetchParcel s s.pc.toNat = .ok (parcelOf lo hi) := fetchParcel_of_placed hplaced 0 (by simp)
    rw [step_of_fetch_error ht hpc (fetch_of_no_length hp (lengthOf_parcelOf hlo))]
    exact traps_illegal s _
  · cases hd : decode w with
    | ok i => exact absurd hd (hno i)
    | error e =>
      rw [step_of_undecodable ht hpc hf hd, undecodable_eq_illegal hd hfloat]
      exact traps_illegal s _

end Sys2Proof.Machine
end

section
/-!
PROOFS. A prefixed instruction with neither context is one element under bit 0 of its predicates
(41_vector_context.md R200, R209, R210): the result of the R, I and U formats, and what stays.
-/

namespace Sys2Proof.Machine

/-! ### Results -/

/-- Moving the pc past the instruction changes the pc alone (R26). -/
theorem onlyAdvances_advance (s : State) (n : Nat) : OnlyAdvances s (.next (s.advance n)) n :=
  ⟨s.advance n, rfl, by simp [SameRest]⟩

/-- A register written and the pc moved on. -/
theorem writesX_setX_advance (s : State) (rd : Reg) (v : Word) (n : Nat) :
    WritesX s (.next ((s.setX rd v).advance n)) rd v n :=
  ⟨(s.setX rd v).advance n, rfl, by simp [State.getX_setX, SameRest]⟩

/-! ### One element -/

/-- The field from bit 0 upward is the value cut to its width. -/
theorem extract_zero_eq_setWidth {n : Nat} (a : BitVec n) (w : Nat) : a.extractLsb' 0 w = a.setWidth w := by
  apply BitVec.eq_of_getLsbD_eq
  intro i hi
  simp [hi]

/-- Element 0 of an operand is the low part of its start register (R207). -/
theorem elemRd_zero (s : State) (n : Reg) (w : Nat) : elemRd s n 0 w = (s.getX n).setWidth w := by
  rw [elemRd, elemReg_zero, elemLo, Nat.zero_mul, Nat.zero_mod, BitVec.ofNat_toNat, BitVec.setWidth_eq,
    extract_zero_eq_setWidth]

/-- Writing element 0 replaces the low part of the start register (R208). -/
theorem elemWr_zero (s : State) (n : Reg) (w : Nat) (v : Word) :
    elemWr s n 0 (v.setWidth w) = s.setX n (withLow (s.getX n) w v) := by
  simp [elemWr_eq, elemLo, withLow]

/-- Position 0 of an operand is its element 0, S or V alike (R202). -/
@[simp] theorem flatIndex_zero (vec : Bool) (svl : Nat) : flatIndex vec svl 0 0 = 0 := by
  simp [flatIndex]

/-- The first element of an R format (R209, R261). -/
theorem elementR_zero (fm : Form) (w : Nat) (sg : Signedness) (fn : Word → Word → Word) (rd rs1 rs2 : Operand)
    (s : State) :
    elementR fm w sg fn rd rs1 rs2 0 0 s = .ok (s.setX rd.reg (withLow (s.getX rd.reg) w
      (fn (extend sg ((s.getX rs1.reg).setWidth w)) (extend sg ((s.getX rs2.reg).setWidth w))))) := by
  simp [elementR, elemRd_zero, elemWr_zero]

/-- The first element of an I format (R209, R263). -/
theorem elementI_zero (fm : Form) (w : Nat) (sg : Signedness) (fn : Word → Word) (rd rs1 : Operand) (s : State) :
    elementI fm w sg fn rd rs1 0 0 0 s = .ok (s.setX rd.reg (withLow (s.getX rd.reg) w
      (fn (extend sg ((s.getX rs1.reg).setWidth w))))) := by
  simp [elementI, elemRd_zero, elemWr_zero]

/-- The first element of a U format (R266). -/
theorem elementU_zero (fm : Form) (w : Nat) (value : Word) (rd : Operand) (s : State) :
    elementU fm w value rd 0 0 s = .ok (s.setX rd.reg (withLow (s.getX rd.reg) w value)) := by
  simp [elementU, elemWr_zero]

/-! ### One pass with neither context -/

/-- With neither context the checks of the options pass and nothing precedes the loop (R200, R223). -/
theorem legal_beginPrefixed_default {fm : Form} (hv : fm.vltyp = .default) (hs : fm.svlen = .subvl) (s : State) :
    fm.legal s.platform = true ∧ beginPrefixed fm s = s := by
  simp [legal_iff, Supported, beginPrefixed, applyVLtyp, writeSubvl, hv, hs]

/-- Bit 0 of the two snapshots (R97, R210). -/
theorem masks_active_zero (s : State) (t : TPred) :
    ((sourceMask s t).active 0 && (destMask s t).active 0) = bothActive s t := by
  rw [sourceMask_active, destMask_active, bothActive]

section
variable {fm : Form} (hv : fm.vltyp = .default) (hs : fm.svlen = .subvl) {s : State}
include hv hs

/-- A loop that completes moves the pc on. -/
theorem runPrefixed_default_ok {loop : State → LoopResult} {t : State} (h : loop s = .ok t) :
    runPrefixed fm true loop s = .next (t.advance fm.ilen) := by
  obtain ⟨hlegal, hbegin⟩ := legal_beginPrefixed_default hv hs s
  simp [runPrefixed, hlegal, hbegin, h]

/-- A loop that raises ends the instruction there. -/
theorem runPrefixed_default_error {loop : State → LoopResult} {t : State} {e : Stop} (h : loop s = .error (t, e)) :
    runPrefixed fm true loop s = stopAt t e := by
  obtain ⟨hlegal, hbegin⟩ := legal_beginPrefixed_default hv hs s
  simp [runPrefixed, hlegal, hbegin, h]

/-- Under an inactive predicate only the pc changes (R210). -/
theorem runSingle_inactive {pred : Pred} (dv : Bool) (op : Nat → ElementOp) (h : PredActive s pred 0 = false) :
    OnlyAdvances s (runPrefixed fm true (runSingle fm pred dv op) s) fm.ilen := by
  rw [runPrefixed_default_ok hv hs (t := s) (by simp [runSingle_default _ _ _ _ _ hv hs, h])]
  exact onlyAdvances_advance s fm.ilen

/-- Under an active predicate the one element runs (R210, R216). -/
theorem runSingle_active {pred : Pred} {dv : Bool} {op : Nat → ElementOp} {t : State}
    (h : PredActive s pred 0 = true) (hop : op 0 0 s = .ok t) :
    runPrefixed fm true (runSingle fm pred dv op) s = .next (t.advance fm.ilen) :=
  runPrefixed_default_ok hv hs (by simp [runSingle_default _ _ _ _ _ hv hs, h, hop])

/-- Under a predicate inactive on either side only the pc changes (R210). -/
theorem runTwin_inactive {tpred : TPred} (sv dv : Bool) (op : Nat → Nat → ElementOp)
    (h : bothActive s tpred = false) :
    OnlyAdvances s (runPrefixed fm true (runTwin fm tpred sv dv op) s) fm.ilen := by
  rw [runPrefixed_default_ok hv hs (t := s) (by rw [runTwin_default _ _ _ _ _ _ hv hs, masks_active_zero, h]; rfl)]
  exact onlyAdvances_advance s fm.ilen

/-- Under predicates active on both sides the one element runs (R210, R217). -/
theorem runTwin_active {tpred : TPred} {sv dv : Bool} {op : Nat → Nat → ElementOp} {t : State}
    (h : bothActive s tpred = true) (hop : op 0 0 0 s = .ok t) :
    runPrefixed fm true (runTwin fm tpred sv dv op) s = .next (t.advance fm.ilen) :=
  runPrefixed_default_ok hv hs (by rw [runTwin_default _ _ _ _ _ _ hv hs, masks_active_zero, h, hop]; rfl)

/-- An exception of the one element is the exception of the instruction, taken in the starting state (R219). -/
theorem runTwin_active_raise {tpred : TPred} {sv dv : Bool} {op : Nat → Nat → ElementOp} {e : Stop}
    (h : bothActive s tpred = true) (hop : op 0 0 0 s = .error e) :
    runPrefixed fm true (runTwin fm tpred sv dv op) s = stopAt s e :=
  runPrefixed_default_error hv hs (by rw [runTwin_default _ _ _ _ _ _ hv hs, masks_active_zero, h, hop]; rfl)

end

/-! ### The functions as the statements write them -/

/-- The shift amount of six bits (R134). -/
theorem amount6_eq (b : Word) : amount6 b = b.toNat % 64 := by
  simp [amount6, BitVec.extractLsb'_toNat]

/-- The shift amount of five bits (R134). -/
theorem amount5_eq (b : Word) : amount5 b = b.toNat % 32 := by
  simp [amount5, BitVec.extractLsb'_toNat]

/-- A signed comparison as 0 or 1 (R138). -/
theorem boolWord_slt (a b : Word) : boolWord (a.slt b) = if a.toInt < b.toInt then 1#64 else 0#64 := by
  simp [boolWord, BitVec.slt]

/-- An unsigned comparison as 0 or 1 (R139). -/
theorem boolWord_ult (a b : Word) : boolWord (a.ult b) = if a.toNat < b.toNat then 1#64 else 0#64 := by
  simp [boolWord, BitVec.ult]

theorem fnSll_eq : fnSll = fun (a b : Word) => a <<< (b.toNat % 64) := by
  funext a b; rw [fnSll, amount6_eq]

theorem fnSrl_eq : fnSrl = fun (a b : Word) => a >>> (b.toNat % 64) := by
  funext a b; rw [fnSrl, amount6_eq]

theorem fnSra_eq : fnSra = fun (a b : Word) => a.sshiftRight (b.toNat % 64) := by
  funext a b; rw [fnSra, amount6_eq]

theorem fnSlt_eq : fnSlt = fun a b => if a.toInt < b.toInt then 1#64 else 0#64 :=
  funext fun a => funext fun b => boolWord_slt a b

theorem fnSltu_eq : fnSltu = fun a b => if a.toNat < b.toNat then 1#64 else 0#64 :=
  funext fun a => funext fun b => boolWord_ult a b

theorem fnSllw_eq : fnSllw = fun (a b : Word) => ((a.setWidth 32) <<< (b.toNat % 32)).signExtend 64 := by
  funext a b; rw [fnSllw, amount5_eq, sext32, low32]

theorem fnSrlw_eq : fnSrlw = fun (a b : Word) => ((a.setWidth 32) >>> (b.toNat % 32)).signExtend 64 := by
  funext a b; rw [fnSrlw, amount5_eq, sext32, low32]

theorem fnSraw_eq : fnSraw = fun (a b : Word) => ((a.setWidth 32).sshiftRight (b.toNat % 32)).signExtend 64 := by
  funext a b; rw [fnSraw, amount5_eq, sext32, low32]

theorem fnSlti_eq (imm : BitVec 12) :
    fnSlti imm = fun a => if a.toInt < (imm.signExtend 64).toInt then 1#64 else 0#64 :=
  funext fun a => boolWord_slt a _

theorem fnSltiu_eq (imm : BitVec 12) :
    fnSltiu imm = fun a => if a.toNat < (imm.signExtend 64).toNat then 1#64 else 0#64 :=
  funext fun a => boolWord_ult a _

/-! ### The formats -/

section
variable {sg : Signedness} {ext : (w : Nat) → BitVec w → Word} (hext : ∀ {w} (v : BitVec w), extend sg v = ext w v)
include hext

/-- P48-R as one scalar element. -/
theorem elementR48_of_meaning {mk : ROps 6 → Instr} {fn fn' : Word → Word → Word} (hfn : fn = fn')
    (hmk : ∀ o s, exec (mk o) s = prefixedR48 (mk o) o sg fn s) : ElementR48 mk ext fn' := by
  intro o s hsv
  rw [hmk]
  refine ⟨fun h => ?_, fun h => runSingle_inactive rfl hsv _ _ h⟩
  rw [prefixedR48, runSingle_active rfl hsv h (elementR_zero ..), hext, hext, hfn]
  exact writesX_setX_advance ..

/-- P64-R as one scalar element. -/
theorem elementR64_of_meaning {mk : ROps 7 → Bool → VLtyp → Instr} {fn fn' : Word → Word → Word} (hfn : fn = fn')
    (hmk : ∀ o vd v s, exec (mk o vd v) s = prefixedR64 (mk o vd v) o vd v sg fn s) : ElementR64 mk ext fn' := by
  intro o vd s hsv
  rw [hmk]
  refine ⟨fun h => ?_, fun h => runSingle_inactive rfl hsv _ _ h⟩
  rw [prefixedR64, runSingle_active rfl hsv h (elementR_zero ..), hext, hext, hfn]
  exact writesX_setX_advance ..

/-- P48-I as one scalar element. -/
theorem elementI48_of_meaning {mk : IOps 6 → Instr} {fn fn' : Word → Word} (hfn : fn = fn')
    (hmk : ∀ o s, exec (mk o) s = prefixedI48 (mk o) o sg fn s) : ElementI48 mk ext fn' := by
  intro o s hsv
  rw [hmk]
  refine ⟨fun h => ?_, fun h => runTwin_inactive rfl hsv _ _ _ h⟩
  rw [prefixedI48, runTwin_active rfl hsv h (elementI_zero ..), hext, hfn]
  exact writesX_setX_advance ..

/-- P64-I as one scalar element. -/
theorem elementI64_of_meaning {mk : IOps 7 → VLtyp → Instr} {fn fn' : Word → Word} (hfn : fn = fn')
    (hmk : ∀ o v s, exec (mk o v) s = prefixedI64 (mk o v) o v sg fn s) : ElementI64 mk ext fn' := by
  intro o s hsv
  rw [hmk]
  refine ⟨fun h => ?_, fun h => runTwin_inactive rfl hsv _ _ _ h⟩
  rw [prefixedI64, runTwin_active rfl hsv h (elementI_zero ..), hext, hfn]
  exact writesX_setX_advance ..

end

/-- P48-U as one scalar element. -/
theorem elementU48_of_meaning {mk : UOps 6 → BitVec 20 → Instr} {value : Word → BitVec 20 → Word}
    (hmk : ∀ o imm s, exec (mk o imm) s = prefixedU48 (mk o imm) o (value s.pc imm) s) : ElementU48 mk value := by
  intro o imm s hsv
  rw [hmk]
  refine ⟨fun h => ?_, fun h => runSingle_inactive rfl hsv _ _ h⟩
  rw [prefixedU48, runSingle_active rfl hsv h (elementU_zero ..)]
  exact writesX_setX_advance ..

/-- P64-U as one scalar element. -/
theorem elementU64_of_meaning {mk : UOps 7 → BitVec 20 → VLtyp → Instr} {value : Word → BitVec 20 → Word}
    (hmk : ∀ o imm v s, exec (mk o imm v) s = prefixedU64 (mk o imm v) o v (value s.pc imm) s) :
    ElementU64 mk value := by
  intro o imm s hsv
  rw [hmk]
  refine ⟨fun h => ?_, fun h => runSingle_inactive rfl hsv _ _ h⟩
  rw [prefixedU64, runSingle_active rfl hsv h (elementU_zero ..)]
  exact writesX_setX_advance ..

/-- Settles O23: the value of each instruction goes to every element (R266). -/
theorem prefixedUpperElement : Obligations.PrefixedUpperElement :=
  ⟨elementU48_of_meaning fun _ _ _ => rfl, elementU64_of_meaning fun _ _ _ _ => rfl,
    elementU48_of_meaning fun _ _ _ => rfl, elementU64_of_meaning fun _ _ _ _ => rfl⟩

/-- Settles O21: each instruction is its format over its function (R261). -/
theorem prefixedRegisterElement : Obligations.PrefixedRegisterElement := by
  have hu {w : Nat} (v : BitVec w) : extend .unsigned v = zeroExtended w v := rfl
  have hs {w : Nat} (v : BitVec w) : extend .signed v = signExtended w v := rfl
  exact
    ⟨elementR48_of_meaning hu (fn := fnAdd) rfl fun _ _ => rfl,
      elementR64_of_meaning hu (fn := fnAdd) rfl fun _ _ _ _ => rfl,
      elementR48_of_meaning hu (fn := fnSub) rfl fun _ _ => rfl,
      elementR64_of_meaning hu (fn := fnSub) rfl fun _ _ _ _ => rfl,
      elementR48_of_meaning hu fnSll_eq fun _ _ => rfl,
      elementR64_of_meaning hu fnSll_eq fun _ _ _ _ => rfl,
      elementR48_of_meaning hu fnSlt_eq fun _ _ => rfl,
      elementR64_of_meaning hu fnSlt_eq fun _ _ _ _ => rfl,
      elementR48_of_meaning hu fnSltu_eq fun _ _ => rfl,
      elementR64_of_meaning hu fnSltu_eq fun _ _ _ _ => rfl,
      elementR48_of_meaning hu (fn := fnXor) rfl fun _ _ => rfl,
      elementR64_of_meaning hu (fn := fnXor) rfl fun _ _ _ _ => rfl,
      elementR48_of_meaning hu fnSrl_eq fun _ _ => rfl,
      elementR64_of_meaning hu fnSrl_eq fun _ _ _ _ => rfl,
      elementR48_of_meaning hu fnSra_eq fun _ _ => rfl,
      elementR64_of_meaning hu fnSra_eq fun _ _ _ _ => rfl,
      elementR48_of_meaning hu (fn := fnOr) rfl fun _ _ => rfl,
      elementR64_of_meaning hu (fn := fnOr) rfl fun _ _ _ _ => rfl,
      elementR48_of_meaning hu (fn := fnAnd) rfl fun _ _ => rfl,
      elementR64_of_meaning hu (fn := fnAnd) rfl fun _ _ _ _ => rfl,
      elementR48_of_meaning hs (fn := fnAddw) rfl fun _ _ => rfl,
      elementR64_of_meaning hs (fn := fnAddw) rfl fun _ _ _ _ => rfl,
      elementR48_of_meaning hs (fn := fnSubw) rfl fun _ _ => rfl,
      elementR64_of_meaning hs (fn := fnSubw) rfl fun _ _ _ _ => rfl,
      elementR48_of_meaning hs fnSllw_eq fun _ _ => rfl,
      elementR64_of_meaning hs fnSllw_eq fun _ _ _ _ => rfl,
      elementR48_of_meaning hs fnSrlw_eq fun _ _ => rfl,
      elementR64_of_meaning hs fnSrlw_eq fun _ _ _ _ => rfl,
      elementR48_of_meaning hs fnSraw_eq fun _ _ => rfl,
      elementR64_of_meaning hs fnSraw_eq fun _ _ _ _ => rfl⟩

/-- Settles O22: each instruction is its format over its function of the immediate (R263, R264). -/
theorem prefixedImmediateElement : Obligations.PrefixedImmediateElement := by
  have hu {w : Nat} (v : BitVec w) : extend .unsigned v = zeroExtended w v := rfl
  have hs {w : Nat} (v : BitVec w) : extend .signed v = signExtended w v := rfl
  exact
    ⟨fun imm => elementI48_of_meaning hu (fn := fnAddi imm) rfl fun _ _ => rfl,
      fun imm => elementI64_of_meaning hu (fn := fnAddi imm) rfl fun _ _ _ => rfl,
      fun imm => elementI48_of_meaning hu (fnSlti_eq imm) fun _ _ => rfl,
      fun imm => elementI64_of_meaning hu (fnSlti_eq imm) fun _ _ _ => rfl,
      fun imm => elementI48_of_meaning hu (fnSltiu_eq imm) fun _ _ => rfl,
      fun imm => elementI64_of_meaning hu (fnSltiu_eq imm) fun _ _ _ => rfl,
      fun imm => elementI48_of_meaning hu (fn := fnXori imm) rfl fun _ _ => rfl,
      fun imm => elementI64_of_meaning hu (fn := fnXori imm) rfl fun _ _ _ => rfl,
      fun imm => elementI48_of_meaning hu (fn := fnOri imm) rfl fun _ _ => rfl,
      fun imm => elementI64_of_meaning hu (fn := fnOri imm) rfl fun _ _ _ => rfl,
      fun imm => elementI48_of_meaning hu (fn := fnAndi imm) rfl fun _ _ => rfl,
      fun imm => elementI64_of_meaning hu (fn := fnAndi imm) rfl fun _ _ _ => rfl,
      fun imm => elementI48_of_meaning hu (fn := fnSlli imm) rfl fun _ _ => rfl,
      fun imm => elementI64_of_meaning hu (fn := fnSlli imm) rfl fun _ _ _ => rfl,
      fun imm => elementI48_of_meaning hu (fn := fnSrli imm) rfl fun _ _ => rfl,
      fun imm => elementI64_of_meaning hu (fn := fnSrli imm) rfl fun _ _ _ => rfl,
      fun imm => elementI48_of_meaning hu (fn := fnSrai imm) rfl fun _ _ => rfl,
      fun imm => elementI64_of_meaning hu (fn := fnSrai imm) rfl fun _ _ _ => rfl,
      fun imm => elementI48_of_meaning hs (fn := fnAddiw imm) rfl fun _ _ => rfl,
      fun imm => elementI64_of_meaning hs (fn := fnAddiw imm) rfl fun _ _ _ => rfl,
      fun imm => elementI48_of_meaning hs (fn := fnSlliw imm) rfl fun _ _ => rfl,
      fun imm => elementI64_of_meaning hs (fn := fnSlliw imm) rfl fun _ _ _ => rfl,
      fun imm => elementI48_of_meaning hs (fn := fnSrliw imm) rfl fun _ _ => rfl,
      fun imm => elementI64_of_meaning hs (fn := fnSrliw imm) rfl fun _ _ _ => rfl,
      fun imm => elementI48_of_meaning hs (fn := fnSraiw imm) rfl fun _ _ => rfl,
      fun imm => elementI64_of_meaning hs (fn := fnSraiw imm) rfl fun _ _ _ => rfl⟩

end Sys2Proof.Machine
end

section
/-!
PROOFS. The hardware loops as folds over the positions they visit (41_vector_context.md R210 to R217): started at
index 0, the single-predicated loop visits the active indices, the twin-predicated loop the pairs of active indices.
-/

namespace Sys2Proof.Machine

/-! ### Elements in a row -/

/-- Elements in a row, cut in two. -/
theorem runElements_append (element : Nat → Nat → State → LoopResult) (l l' : List (Nat × Nat)) (s : State) :
    runElements element (l ++ l') s = (runElements element l s).bind (runElements element l') := by
  induction l generalizing s with
  | nil => rfl
  | cons p l ih =>
    obtain ⟨i, j⟩ := p
    simp only [List.cons_append, runElements]
    cases element i j s with
    | error e => rfl
    | ok t => exact ih t

/-- The sub-elements of one sub-vector (R216). -/
theorem subLoop_eq_runElements (fm : Form) (op : Nat → ElementOp) (i fuel sub : Nat) (s : State) :
    subLoop (fm.markSingle i) (op i) fuel sub s =
      runElements (markedSingle fm op) ((List.range' sub fuel).map fun k => (i, k)) s := by
  induction fuel generalizing sub s with
  | zero => rfl
  | succ fuel ih =>
    simp only [subLoop, List.range'_succ, List.map_cons, runElements, markedSingle]
    cases op i sub (fm.markSingle i sub s) with
    | error e => rfl
    | ok t => exact ih (sub + 1) t

/-! ### Single predication -/

/-- The active indices from `i` up to `vle`, in rising order (R210). -/
def activeFrom (active : Nat → Bool) (vle i : Nat) : List Nat := (List.range' i (vle - i)).filter active

theorem activeFrom_of_le {active : Nat → Bool} {vle i : Nat} (h : vle ≤ i) : activeFrom active vle i = [] := by
  simp [activeFrom, Nat.sub_eq_zero_of_le h]

theorem activeFrom_of_active {active : Nat → Bool} {vle i : Nat} (hi : i < vle) (h : active i = true) :
    activeFrom active vle i = i :: activeFrom active vle (i + 1) := by
  obtain ⟨n, hn⟩ : ∃ n, vle - i = n + 1 := ⟨vle - i - 1, by omega⟩
  rw [activeFrom, activeFrom, hn, List.range'_succ, List.filter_cons_of_pos h, show vle - (i + 1) = n by omega]

theorem activeFrom_of_inactive {active : Nat → Bool} {vle i : Nat} (hi : i < vle) (h : active i = false) :
    activeFrom active vle i = activeFrom active vle (i + 1) := by
  obtain ⟨n, hn⟩ : ∃ n, vle - i = n + 1 := ⟨vle - i - 1, by omega⟩
  rw [activeFrom, activeFrom, hn, List.range'_succ, List.filter_cons_of_neg (by simp [h]),
    show vle - (i + 1) = n by omega]

/-- The active indices below `vle`. -/
theorem activeFrom_zero (active : Nat → Bool) (vle : Nat) :
    activeFrom active vle 0 = (List.range vle).filter active := by
  rw [activeFrom, Nat.sub_zero, List.range_eq_range']

/-- The `while` of R216 visits the active indices from where it stands, or the first of them for a scalar
destination. -/
theorem singleLoop_eq_runElements (fm : Form) (active : Nat → Bool) (dv : Bool) (op : Nat → ElementOp)
    {vle fuel i : Nat} (hfuel : fuel = vle - i) (s : State) :
    singleLoop active dv (fun i s0 => subLoop (fm.markSingle i) (op i) (fm.svl - s0) s0) fuel i 0 s =
      runElements (markedSingle fm op)
        ((if dv then activeFrom active vle i else (activeFrom active vle i).take 1).flatMap
          fun i => (List.range fm.svl).map fun sub => (i, sub)) s := by
  induction fuel generalizing i s with
  | zero => simp [singleLoop, activeFrom_of_le (show vle ≤ i by omega), runElements]
  | succ fuel ih =>
    have hi : i < vle := by omega
    unfold singleLoop
    cases ha : active i with
    | false => simpa [activeFrom_of_inactive hi ha] using ih (i := i + 1) (by omega) s
    | true =>
      rw [activeFrom_of_active hi ha]
      simp only [if_true, subLoop_eq_runElements, Nat.sub_zero, ← List.range_eq_range']
      cases dv with
      | false =>
        simp only [Bool.false_eq_true, if_false, List.take_succ_cons, List.take_zero, List.flatMap_cons,
          List.flatMap_nil, List.append_nil]
        cases runElements (markedSingle fm op) ((List.range fm.svl).map fun sub => (i, sub)) s <;> rfl
      | true =>
        simp only [if_true, List.flatMap_cons, runElements_append] at ih ⊢
        cases runElements (markedSingle fm op) ((List.range fm.svl).map fun sub => (i, sub)) s with
        | error e => rfl
        | ok t => exact ih (by omega) t

/-- Settles O29: the loop from index 0 and sub-element 0. -/
theorem singleLoopPositions : Obligations.SingleLoopPositions := by
  intro fm pred dv op s hsrc hsub
  unfold runSingle singlePositions
  rw [hsrc, hsub, predMask_active, singleLoop_eq_runElements fm _ dv op (vle := fm.vle s) rfl, activeFrom_zero]
    <;> rfl

/-! ### Twin predication -/

/-- The search for the next active index stops at the first of the active indices, or past `vle` (R217). -/
theorem nextActive_cases (active : Nat → Bool) (vle i : Nat) :
    (vle ≤ nextActive active (vle - i) i ∧ activeFrom active vle i = []) ∨
      ∃ n, nextActive active (vle - i) i = n ∧ i ≤ n ∧ n < vle ∧ active n = true ∧
        activeFrom active vle i = n :: activeFrom active vle (n + 1) := by
  induction h : vle - i generalizing i with
  | zero => exact .inl ⟨by simp only [nextActive]; omega, activeFrom_of_le (by omega)⟩
  | succ fuel ih =>
    have hi : i < vle := by omega
    unfold nextActive
    cases ha : active i with
    | true => exact .inr ⟨i, rfl, le_rfl, hi, ha, activeFrom_of_active hi ha⟩
    | false =>
      rw [activeFrom_of_inactive hi ha]
      obtain h | ⟨n, hn, hle, hrest⟩ := ih (i + 1) (by omega)
      · exact .inl h
      · exact .inr ⟨n, hn, by omega, hrest⟩

/-- Active sources paired with active destinations, a scalar source staying on its first (R215). -/
def pairUp (sv : Bool) (sources dests : List Nat) : List (Nat × Nat) :=
  if sv then sources.zip dests
  else
    match sources with
    | [] => []
    | i :: _ => dests.map fun j => (i, j)

theorem pairUp_nil_left (sv : Bool) (dests : List Nat) : pairUp sv [] dests = [] := by
  cases sv <;> rfl

theorem pairUp_nil_right (sv : Bool) (sources : List Nat) : pairUp sv sources [] = [] := by
  cases sv <;> cases sources <;> rfl

theorem pairUp_cons (sv : Bool) (i j : Nat) (sources dests : List Nat) :
    pairUp sv (i :: sources) (j :: dests) = (i, j) :: pairUp sv (if sv then sources else i :: sources) dests := by
  cases sv <;> rfl

/-- The `loop` of R217 visits the pairs of active indices from where it stands, or the first of them for a scalar
destination. -/
theorem twinLoop_eq_runElements (fm : Form) (aS aD : Nat → Bool) (sv dv : Bool) (op : Nat → Nat → ElementOp)
    {vle fuel i j : Nat} (hfuel : vle - j ≤ fuel) (s : State) :
    twinLoop vle aS aD sv dv (fun i j s0 => subLoop (fm.markTwin i j) (op i j) (fm.svl - s0) s0) fuel i j 0 s =
      runElements (markedTwin fm op)
        (if dv then pairUp sv (activeFrom aS vle i) (activeFrom aD vle j)
          else (pairUp sv (activeFrom aS vle i) (activeFrom aD vle j)).take 1) s := by
  induction fuel generalizing i j s with
  | zero => simp [twinLoop, activeFrom_of_le (show vle ≤ j by omega), pairUp_nil_right, runElements]
  | succ fuel ih =>
    unfold twinLoop
    obtain ⟨hS, hnil⟩ | ⟨i', hi', -, hltS, hact, hS⟩ := nextActive_cases aS vle i
    · simp [hS, hnil, pairUp_nil_left, runElements]
    obtain ⟨hD, hnil⟩ | ⟨j', hj', hle, hltD, -, hD⟩ := nextActive_cases aD vle j
    · simp [hD, hnil, pairUp_nil_right, runElements]
    have hsources : activeFrom aS vle (if sv then i' + 1 else i') =
        if sv then activeFrom aS vle (i' + 1) else i' :: activeFrom aS vle (i' + 1) := by
      cases sv with
      | false => exact activeFrom_of_active hltS hact
      | true => rfl
    rw [hS, hD, pairUp_cons]
    simp only [hi', hj', show ¬(vle ≤ i' ∨ vle ≤ j') by omega, if_false, Nat.sub_zero]
    cases dv with
    | false =>
      cases h : subLoop (fm.markTwin i' j') (op i' j') fm.svl 0 s with
      | error e => simp [runElements, markedTwin, h]
      | ok t => simp [runElements, markedTwin, h]
    | true =>
      simp only [if_true, runElements, markedTwin] at ih ⊢
      cases subLoop (fm.markTwin i' j') (op i' j') fm.svl 0 s with
      | error e => rfl
      | ok t => exact (ih (by omega) t).trans (by rw [hsources])

/-- Settles O30: the loop from index 0 on both sides and sub-element 0. -/
theorem twinLoopPositions : Obligations.TwinLoopPositions := by
  intro fm tpred sv dv op s hsrc hdest hsub
  unfold runTwin twinPairs
  rw [hsrc, hdest, hsub, sourceMask_active, destMask_active,
    twinLoop_eq_runElements fm _ _ sv dv op (vle := fm.vle s) le_rfl, activeFrom_zero, activeFrom_zero]
    <;> rfl

end Sys2Proof.Machine
end

section
/-!
PROOFS. Floating-point loads and stores with neither context, prefixed or not (50_floating_point.md R286): one element
whose bits move unchanged, and the words of the two classes that raise.
-/

namespace Sys2Proof.Machine

/-! ### The pieces of one element -/

/-- Element 0 of an f operand is the low part of its start register (R207, R283). -/
theorem felemRd_zero (s : State) (n : Reg) (w : Nat) : felemRd s n 0 w = (s.getF n).setWidth w := by
  rw [felemRd, elemReg_zero, elemLo, Nat.zero_mul, Nat.zero_mod, BitVec.ofNat_toNat, BitVec.setWidth_eq,
    extract_zero_eq_setWidth]

/-- Writing element 0 replaces the low part of the start register, without NaN-boxing (R285). -/
theorem felemWr_zero (s : State) (n : Reg) (w : Nat) (v : Quad) :
    felemWr s n 0 (v.setWidth w) = s.setF n (withLowF (s.getF n) w v) := by
  simp [felemWr, elemLo, withLowF]

/-- The address of the first element, S or V base alike (R242). -/
theorem effectiveAddress_zero (s : State) (rs1 : Operand) (imm : Word) (memVec : Bool) (mb svl : Nat) :
    effectiveAddress s rs1 imm memVec mb svl 0 0 = s.getX rs1.reg + imm := by
  simp [effectiveAddress, elemRd_64]

/-- The first address is within the registers (R205). -/
theorem addressInFile_zero (rs1 : Operand) : addressInFile rs1 0 = true := by
  simp [addressInFile]

/-- The first element of a load (R286). -/
theorem elementLoadFp_zero (fm : Form) (mb : Nat) (rd rs1 : Operand) (imm : Word) (memVec : Bool) (s : State) :
    elementLoadFp fm mb rd rs1 imm memVec 0 0 0 s =
      (memRead s (s.getX rs1.reg + imm) mb).map
        (fun m => s.setF rd.reg (withLowF (s.getF rd.reg) (8 * mb) m)) := by
  simp only [elementLoadFp, flatIndex_zero, inFile_zero, addressInFile_zero, effectiveAddress_zero, Bool.and_self,
    if_true, felemWr_zero]
  cases memRead s (s.getX rs1.reg + imm) mb <;> rfl

/-- The first element of a store (R286). -/
theorem elementStoreFp_zero (fm : Form) (mb : Nat) (rs2 rs1 : Operand) (imm : Word) (memVec : Bool) (s : State) :
    elementStoreFp fm mb rs2 rs1 imm memVec 0 0 0 s =
      memWrite s (s.getX rs1.reg + imm) mb (((s.getF rs2.reg).setWidth (8 * mb)).setWidth 128) := by
  simp [elementStoreFp, addressInFile_zero, effectiveAddress_zero, felemRd_zero]

/-! ### Results -/

/-- An f register written and the pc moved on, no flag raised. -/
theorem writesF_setF_advance (s : State) (rd : Reg) (v : Quad) (n : Nat) :
    WritesF s (.next ((s.setF rd v).advance n)) rd v 0#5 n :=
  ⟨(s.setF rd v).advance n, rfl, by simp [State.getF_setF]⟩

/-- A store and the pc moved on. -/
theorem stores_store_advance (s : State) (a : Word) (n : Nat) (v : Quad) (len : Nat) :
    Stores s (.next ((s.store a n v).advance len)) a n v len :=
  ⟨(s.store a n v).advance len, rfl, rfl, rfl, fun _ => rfl, rfl, rfl, rfl, rfl,
    read_writeLE_inside s.mem a.toNat n v, read_writeLE_outside s.mem a.toNat n v,
    mem_markStored s.stored a.toNat n⟩

/-! ### What the classes accept -/

/-- A load of a width or an itype that R286 refuses, or without the registers for it. -/
theorem runLoadFp_illegal {fm : Form} {width : BitVec 3} {ew : Ew} {s : State}
    (h : ∀ mb, fpAccessSize width = some mb → fpMemLegal s.platform mb ew = false) (tpred : TPred)
    (rd rs1 : Operand) (imm : BitVec 12) :
    Traps s (runLoadFp fm width ew tpred rd rs1 imm s) .illegalInstruction fm.word := by
  unfold runLoadFp
  cases hw : fpAccessSize width with
  | none => exact traps_illegal s fm.word
  | some mb =>
    simp only [runPrefixed, h mb hw, Bool.and_false, Bool.false_eq_true, if_false]
    exact traps_illegal s fm.word

/-- A store of a width or an itype that R286 refuses, or without the registers for it. -/
theorem runStoreFp_illegal {fm : Form} {width : BitVec 3} {ew : Ew} {s : State}
    (h : ∀ mb, fpAccessSize width = some mb → fpMemLegal s.platform mb ew = false) (tpred : TPred)
    (rs2 rs1 : Operand) (imm : BitVec 12) :
    Traps s (runStoreFp fm width ew tpred rs2 rs1 imm s) .illegalInstruction fm.word := by
  unfold runStoreFp
  cases hw : fpAccessSize width with
  | none => exact traps_illegal s fm.word
  | some mb =>
    simp only [runPrefixed, h mb hw, Bool.and_false, Bool.false_eq_true, if_false]
    exact traps_illegal s fm.word

/-- The widths with an access size (R286). -/
theorem fpAccessSize_of_mem {width : BitVec 3} {mb : Nat}
    (h : (width, mb) ∈ [(0b001#3, 2), (0b010#3, 4), (0b011#3, 8), (0b100#3, 16)]) :
    fpAccessSize width = some mb := by
  simp only [List.mem_cons, Prod.mk.injEq, List.not_mem_nil, or_false] at h
  obtain ⟨rfl, rfl⟩ | ⟨rfl, rfl⟩ | ⟨rfl, rfl⟩ | ⟨rfl, rfl⟩ := h <;> rfl

/-- Any other width has none. -/
theorem fpAccessSize_eq_none :
    ∀ width : BitVec 3, width ∉ [0b001#3, 0b010#3, 0b011#3, 0b100#3] → fpAccessSize width = none := by
  decide

/-- An itype other than 00 is refused (R286). -/
theorem fpMemLegal_of_ne {ew : Ew} (h : ew ≠ .e64) (p : Platform) (mb : Nat) : fpMemLegal p mb ew = false := by
  simp [fpMemLegal, h]

/-- An access wider than FLEN is refused (log 24). -/
theorem fpMemLegal_of_wide {p : Platform} {mb : Nat} (h : p.flen.bits < 8 * mb) (ew : Ew) :
    fpMemLegal p mb ew = false := by
  simp [fpMemLegal, h]

/-- With `HAS_F` an access that fits FLEN passes (R280, R286). -/
theorem fpMemLegal_e64 {p : Platform} {mb : Nat} (hF : p.hasF = true) (h : 8 * mb ≤ p.flen.bits) :
    fpMemLegal p mb .e64 = true := by
  simp [fpMemLegal, hF, h]

/-! ### One element -/

section
variable {fm : Form} (hv : fm.vltyp = .default) (hs : fm.svlen = .subvl) {width : BitVec 3} {mb : Nat}
  (hw : fpAccessSize width = some mb)
include hv hs hw

/-- A load with neither context. -/
theorem fpLoadElement_runLoadFp (tpred : TPred) (rd rs1 : Operand) (imm : BitVec 12) (s : State) :
    FpLoadElement s (runLoadFp fm width .e64 tpred rd rs1 imm s) (bothActive s tpred) fm.word rd.reg
      (s.getX rs1.reg + imm.signExtend 64) mb fm.ilen := by
  refine ⟨fun hwide => runLoadFp_illegal ?_ tpred rd rs1 imm, fun hF hfits => ?_⟩
  · exact fun mb' hmb => by
      cases hw.symm.trans hmb
      exact fpMemLegal_of_wide hwide .e64
  have hop := elementLoadFp_zero fm mb rd rs1 (immI imm) (rd.vec || rs1.vec) s
  have hrun : runLoadFp fm width .e64 tpred rd rs1 imm s = runPrefixed fm true
      (runTwin fm tpred (rd.vec || rs1.vec) rd.vec (elementLoadFp fm mb rd rs1 (immI imm) (rd.vec || rs1.vec))) s := by
    simp only [runLoadFp, hw, fpMemLegal_e64 hF hfits]
  rw [hrun]
  refine ⟨fun hact m hm => ?_, fun hact c v hm => ?_, runTwin_inactive hv hs _ _ _⟩
  · rw [runTwin_active hv hs hact (hop.trans (congrArg _ hm))]
    exact writesF_setF_advance ..
  · rw [runTwin_active_raise hv hs hact (hop.trans (congrArg _ hm))]
    exact traps_takeTrap s c v

/-- A store with neither context. -/
theorem fpStoreElement_runStoreFp (tpred : TPred) (rs2 rs1 : Operand) (imm : BitVec 12) (s : State) :
    FpStoreElement s (runStoreFp fm width .e64 tpred rs2 rs1 imm s) (bothActive s tpred) fm.word rs2.reg
      (s.getX rs1.reg + imm.signExtend 64) mb fm.ilen := by
  refine ⟨fun hwide => runStoreFp_illegal ?_ tpred rs2 rs1 imm, fun hF hfits => ?_⟩
  · exact fun mb' hmb => by
      cases hw.symm.trans hmb
      exact fpMemLegal_of_wide hwide .e64
  have hop := elementStoreFp_zero fm mb rs2 rs1 (immI imm) (rs2.vec || rs1.vec) s
  have hrun : runStoreFp fm width .e64 tpred rs2 rs1 imm s = runPrefixed fm true
      (runTwin fm tpred rs2.vec (rs2.vec || rs1.vec)
        (elementStoreFp fm mb rs2 rs1 (immI imm) (rs2.vec || rs1.vec))) s := by
    simp only [runStoreFp, hw, fpMemLegal_e64 hF hfits]
  rw [hrun]
  refine ⟨fun hact halign hbacked => ?_, fun hact halign => ?_, fun hact halign hhole => ?_,
    runTwin_inactive hv hs _ _ _⟩
  · rw [runTwin_active hv hs hact (hop.trans (memWrite_eq halign ((backedRange_iff ..).2 hbacked)))]
    exact stores_store_advance ..
  · rw [runTwin_active_raise hv hs hact (hop.trans (memWrite_misaligned halign))]
    exact traps_takeTrap ..
  · rw [runTwin_active_raise hv hs hact (hop.trans (memWrite_unbacked halign (backedRange_eq_false hhole)))]
    exact traps_takeTrap ..

end

/-! ### Unprefixed words -/

/-- A step on a LOAD-FP word (R193, R281). -/
theorem step_loadFp {s : State} {w : BitVec 32} (h : Runs32 s w) (hop : w.extractLsb' 0 7 = 0b0000111#7) :
    step s = execLoadFp w s := by
  obtain ⟨ht, hp, hf⟩ := h
  rw [step_unprefixedFloat ht hp hf (decode_floatBase (by simp [hop])), execUnprefixedFloat,
    extract_mid_of_opcode hop]
  rfl

/-- A step on a STORE-FP word (R193, R281). -/
theorem step_storeFp {s : State} {w : BitVec 32} (h : Runs32 s w) (hop : w.extractLsb' 0 7 = 0b0100111#7) :
    step s = execStoreFp w s := by
  obtain ⟨ht, hp, hf⟩ := h
  rw [step_unprefixedFloat ht hp hf (decode_floatBase (by simp [hop])), execUnprefixedFloat,
    extract_mid_of_opcode hop]
  rfl

/-- Settles O46: each form is the element of its class under its own operands. -/
theorem floatLoadStoreElement : Obligations.FloatLoadStoreElement := by
  refine ⟨fun width mb hmem => ?_, fun width hmem => ?_, fun width => ?_⟩
  · have hw := fpAccessSize_of_mem hmem
    refine ⟨fun o imm s hsv hew => ?_, fun o imm s hsv hew => ?_, fun o imm s hsv hew => ?_,
      fun o imm s hsv hew => ?_, fun s w hrun hop hwidth => ?_, fun s w hrun hop hwidth => ?_⟩
    · have h := fpLoadElement_runLoadFp (fm := form48 (.p48LoadFp o width imm) o.svlen) rfl hsv hw o.tpred
        (operand48 o.rd o.vd) (operand48 o.rs1 o.vs1) imm s
      rwa [← hew] at h
    · have h := fpLoadElement_runLoadFp (fm := form64 (.p64LoadFp o width imm .default) o.svlen .default) rfl hsv hw
        o.tpred (operand64 o.rd o.vd) (operand64 o.rs1 o.vs1) imm s
      rwa [← hew] at h
    · have h := fpStoreElement_runStoreFp (fm := form48 (.p48StoreFp o width imm) o.svlen) rfl hsv hw o.tpred
        (operand48 o.rs2 o.vs2) (operand48 o.rs1 o.vs1) imm s
      rwa [← hew] at h
    · have h := fpStoreElement_runStoreFp (fm := form64 (.p64StoreFp o width imm .default) o.svlen .default) rfl hsv
        hw o.tpred (operand64 o.rs2 o.vs2) (operand64 o.rs1 o.vs1) imm s
      rwa [← hew] at h
    · rw [step_loadFp hrun hop]
      exact fpLoadElement_runLoadFp (fm := form32 w) rfl rfl (hwidth ▸ hw) .none ..
    · rw [step_storeFp hrun hop]
      exact fpStoreElement_runStoreFp (fm := form32 w) rfl rfl (hwidth ▸ hw) .none ..
  · have hnone : ∀ (p : Platform) (ew : Ew) mb, fpAccessSize width = some mb → fpMemLegal p mb ew = false :=
      fun p ew mb hmb => by
        rw [fpAccessSize_eq_none width hmem] at hmb
        cases hmb
    refine ⟨fun o imm s => runLoadFp_illegal (hnone _ _) .., fun o imm v s => runLoadFp_illegal (hnone _ _) ..,
      fun o imm s => runStoreFp_illegal (hnone _ _) .., fun o imm v s => runStoreFp_illegal (hnone _ _) ..,
      fun s w hrun hop hwidth => ?_⟩
    subst hwidth
    obtain hop | hop := hop
    · rw [step_loadFp hrun hop]
      exact runLoadFp_illegal (hnone _ _) ..
    · rw [step_storeFp hrun hop]
      exact runStoreFp_illegal (hnone _ _) ..
  · exact
      ⟨fun o imm s hew => runLoadFp_illegal (fun mb _ => fpMemLegal_of_ne hew _ mb) ..,
        fun o imm v s hew => runLoadFp_illegal (fun mb _ => fpMemLegal_of_ne hew _ mb) ..,
        fun o imm s hew => runStoreFp_illegal (fun mb _ => fpMemLegal_of_ne hew _ mb) ..,
        fun o imm v s hew => runStoreFp_illegal (fun mb _ => fpMemLegal_of_ne hew _ mb) ..⟩

end Sys2Proof.Machine
end

section
/-!
PROOFS. The element-wise result of the vector forms of P64-R (41_vector_context.md R205 to R213, R216): what an element
reads after another is written, then the elements of a whole loop in a row.
-/

namespace Sys2Proof.Machine

/-! ### Elements of one operand -/

/-- The register of an element in the file, as a number (R205). -/
theorem toNat_ofNat_elemReg {n : Reg} {k w : Nat} (h : inFile xlen n k w = true) :
    (BitVec.ofNat 7 (elemReg xlen n k w)).toNat = elemReg xlen n k w := by
  rw [BitVec.toNat_ofNat]
  exact Nat.mod_eq_of_lt (by simpa [inFile] using h)

/-- An operand that starts past x0 has no element in it. -/
theorem ofNat_elemReg_ne_zero {n : Reg} {k w : Nat} (h : inFile xlen n k w = true) (hn : n ≠ 0#7) :
    BitVec.ofNat 7 (elemReg xlen n k w) ≠ 0#7 := by
  intro h0
  have hreg : n.toNat + k * w / xlen = 0 := by rw [← elemReg, ← toNat_ofNat_elemReg h, h0]; rfl
  exact hn (BitVec.eq_of_toNat_eq (Nat.eq_zero_of_add_eq_zero_right hreg))

/-- No element crosses a register boundary (R206). -/
theorem elemLo_add_le (e : Ew) (k : Nat) : elemLo xlen k e.bits + e.bits ≤ 64 := by
  cases e <;> simp only [elemLo, xlen, Ew.bits] <;> omega

/-- Two elements in one register do not overlap (R206). -/
theorem elemLo_apart {e : Ew} {n : Reg} {j k : Nat} (hjk : j ≠ k)
    (hreg : elemReg xlen n j e.bits = elemReg xlen n k e.bits) :
    elemLo xlen j e.bits + e.bits ≤ elemLo xlen k e.bits ∨ elemLo xlen k e.bits + e.bits ≤ elemLo xlen j e.bits := by
  cases e <;> simp only [elemReg, elemLo, xlen, Ew.bits] at hreg ⊢ <;> omega

/-- An element is a part of one register (R207). -/
theorem elemRd_congr {s t : State} {n : Reg} {k w : Nat}
    (h : t.getX (BitVec.ofNat 7 (elemReg xlen n k w)) = s.getX (BitVec.ofNat 7 (elemReg xlen n k w))) :
    elemRd t n k w = elemRd s n k w := by
  rw [elemRd, h, elemRd]

/-- Every element of an operand past x0, after one of them is written (R207, R208). -/
theorem elemRd_elemWr {e : Ew} {n : Reg} {j k : Nat} (hn : n ≠ 0#7) (hj : inFile xlen n j e.bits = true)
    (hk : inFile xlen n k e.bits = true) (s : State) (v : BitVec e.bits) :
    elemRd (elemWr s n k v) n j e.bits = if j = k then v else elemRd s n j e.bits := by
  split
  case isTrue h =>
    subst h
    rw [elemRd, elemWr_eq, State.getX_setX_self _ _ _ (ofNat_elemReg_ne_zero hj hn)]
    exact extract_putBits_same _ _ _ (elemLo_add_le e j)
  case isFalse h =>
    by_cases hreg : elemReg xlen n j e.bits = elemReg xlen n k e.bits
    · rw [elemRd, elemRd, elemWr_eq, hreg, State.getX_setX_self _ _ _ (ofNat_elemReg_ne_zero hk hn)]
      exact extract_putBits_disjoint _ _ _ _ _ (elemLo_apart h hreg)
    · refine elemRd_congr (getX_elemWr_other _ _ _ _ _ fun heq => hreg ?_)
      rw [← toNat_ofNat_elemReg hj, heq, toNat_ofNat_elemReg hk]

/-- The flat index of a vector names its position (R202). -/
theorem flatIndex_inj {svl i sub i' sub' : Nat} (hsub : sub < svl) (hsub' : sub' < svl) :
    flatIndex true svl i sub = flatIndex true svl i' sub' ↔ (i, sub) = (i', sub') := by
  refine ⟨fun h => ?_, fun h => by cases h; rfl⟩
  simp only [flatIndex, if_true] at h
  have hi : i = i' := by
    have := congrArg (· / svl) h
    simpa [Nat.mul_add_div, Nat.mul_comm _ svl, Nat.div_eq_of_lt, hsub, hsub', show 0 < svl by omega] using this
  subst hi
  simpa using h

/-! ### One element of the loop -/

/-- The operands of a vector form as its statement takes them: within the file, and the destination apart from x0 and
from the sources. -/
structure ApartOperands (e : Ew) (vle svl : Nat) (rd rs1 rs2 : Reg) : Prop where
  rd_ne_zero : rd ≠ 0#7
  rd_inFile : spanInFile (operand64 rd true) vle svl e.bits
  rs1_inFile : spanInFile (operand64 rs1 true) vle svl e.bits
  rs2_inFile : spanInFile (operand64 rs2 true) vle svl e.bits
  apart : ∀ n, inSpan (operand64 rd true) vle svl e.bits n →
    ¬inSpan (operand64 rs1 true) vle svl e.bits n ∧ ¬inSpan (operand64 rs2 true) vle svl e.bits n

/-- The value that element `k` of the destination receives (R209, R261). -/
def laneValue (e : Ew) (sg : Signedness) (fn : Word → Word → Word) (rs1 rs2 : Reg) (s : State) (k : Nat) :
    BitVec e.bits :=
  (fn (extend sg (elemRd s rs1 k e.bits)) (extend sg (elemRd s rs2 k e.bits))).setWidth e.bits

/-- The register of an element of an operand is in the operand's span. -/
theorem inSpan_ofNat_elemReg {n : Reg} {vle svl w i sub : Nat} (h : spanInFile (operand64 n true) vle svl w)
    (hi : i < vle) (hsub : sub < svl) :
    inSpan (operand64 n true) vle svl w (BitVec.ofNat 7 (elemReg xlen n (flatIndex true svl i sub) w)) :=
  ⟨i, sub, hi, hsub, toNat_ofNat_elemReg (h i sub hi hsub)⟩

/-- Recording a position leaves the registers. -/
theorem getX_markSingle (fm : Form) (i sub : Nat) (s : State) (n : Reg) :
    (fm.markSingle i sub s).getX n = s.getX n := by
  unfold Form.markSingle Form.setSub Form.setSrc
  split <;> split <;> rfl

/-- Recording a position leaves every element as it is. -/
theorem elemRd_markSingle (fm : Form) (i sub : Nat) (s : State) (n : Reg) (k w : Nat) :
    elemRd (fm.markSingle i sub s) n k w = elemRd s n k w :=
  elemRd_congr (getX_markSingle ..)

/-- Recording a position leaves the pc. -/
theorem pc_markSingle (fm : Form) (i sub : Nat) (s : State) : (fm.markSingle i sub s).pc = s.pc := by
  unfold Form.markSingle Form.setSub Form.setSrc
  split <;> split <;> rfl

/-- So does the element written there. -/
theorem pc_elemWr_markSingle (fm : Form) (i sub : Nat) (s : State) (n : Reg) (k : Nat) {w : Nat} (v : BitVec w) :
    (elemWr (fm.markSingle i sub s) n k v).pc = s.pc := by
  rw [elemWr_eq, State.pc_setX, pc_markSingle]

section
variable {e : Ew} {vle : Nat} {rd rs1 rs2 : Reg}

/-- Writing an element of the destination leaves the elements of an operand apart from it. -/
theorem elemRd_elemWr_apart {svl i sub i' sub' : Nat} {n : Reg}
    (hrd : spanInFile (operand64 rd true) vle svl e.bits) (hn : spanInFile (operand64 n true) vle svl e.bits)
    (hapart : ∀ r, inSpan (operand64 rd true) vle svl e.bits r → ¬inSpan (operand64 n true) vle svl e.bits r)
    (hi : i < vle) (hsub : sub < svl) (hi' : i' < vle) (hsub' : sub' < svl) (s : State) (v : BitVec e.bits) :
    elemRd (elemWr s rd (flatIndex true svl i sub) v) n (flatIndex true svl i' sub') e.bits =
      elemRd s n (flatIndex true svl i' sub') e.bits := by
  refine elemRd_congr (getX_elemWr_other _ _ _ _ _ fun heq => ?_)
  exact hapart _ (inSpan_ofNat_elemReg hrd hi hsub) (heq ▸ inSpan_ofNat_elemReg hn hi' hsub')

variable {fm : Form} (hops : ApartOperands e vle fm.svl rd rs1 rs2) (sg : Signedness) (fn : Word → Word → Word)
include hops

/-- One element of the loop: within the file, it completes (R205, R216). -/
theorem markedSingle_elementR {i sub : Nat} (hi : i < vle) (hsub : sub < fm.svl) (s : State) :
    markedSingle fm
        (elementR fm e.bits sg fn (operand64 rd true) (operand64 rs1 true) (operand64 rs2 true)) i sub s =
      .ok (elemWr (fm.markSingle i sub s) rd (flatIndex true fm.svl i sub)
        (laneValue e sg fn rs1 rs2 s (flatIndex true fm.svl i sub))) := by
  have h0 := hops.rd_inFile i sub hi hsub
  have h1 := hops.rs1_inFile i sub hi hsub
  have h2 := hops.rs2_inFile i sub hi hsub
  simp only [operand64] at h0 h1 h2
  simp [markedSingle, elementR, operand64, h0, h1, h2, elemRd_markSingle, laneValue]

/-- An element leaves the value of every other as it was. -/
theorem laneValue_elemWr {i sub i' sub' : Nat} (hi : i < vle) (hsub : sub < fm.svl) (hi' : i' < vle)
    (hsub' : sub' < fm.svl) (s : State) (v : BitVec e.bits) :
    laneValue e sg fn rs1 rs2 (elemWr (fm.markSingle i sub s) rd (flatIndex true fm.svl i sub) v)
        (flatIndex true fm.svl i' sub') =
      laneValue e sg fn rs1 rs2 s (flatIndex true fm.svl i' sub') := by
  simp only [laneValue, elemRd_markSingle,
    elemRd_elemWr_apart hops.rd_inFile hops.rs1_inFile (fun r hr => (hops.apart r hr).1) hi hsub hi' hsub',
    elemRd_elemWr_apart hops.rd_inFile hops.rs2_inFile (fun r hr => (hops.apart r hr).2) hi hsub hi' hsub']

/-! ### A loop -/

/-- Elements in a row: the positions among them hold their values, all others keep theirs. -/
theorem runElements_elementR (l : List (Nat × Nat)) (hl : ∀ p ∈ l, p.1 < vle ∧ p.2 < fm.svl) (s : State) :
    ∃ t, runElements (markedSingle fm
        (elementR fm e.bits sg fn (operand64 rd true) (operand64 rs1 true) (operand64 rs2 true))) l s = .ok t ∧
      t.pc = s.pc ∧
      ∀ i sub, i < vle → sub < fm.svl →
        elemRd t rd (flatIndex true fm.svl i sub) e.bits =
          if (i, sub) ∈ l then laneValue e sg fn rs1 rs2 s (flatIndex true fm.svl i sub)
          else elemRd s rd (flatIndex true fm.svl i sub) e.bits := by
  induction l generalizing s with
  | nil => exact ⟨s, rfl, rfl, by simp⟩
  | cons p l ih =>
    obtain ⟨i₀, sub₀⟩ := p
    obtain ⟨hi₀, hsub₀⟩ := hl (i₀, sub₀) (by simp)
    obtain ⟨t, ht, hpc, helem⟩ := ih (fun p hp => hl p (by simp [hp])) (elemWr (fm.markSingle i₀ sub₀ s) rd
      (flatIndex true fm.svl i₀ sub₀) (laneValue e sg fn rs1 rs2 s (flatIndex true fm.svl i₀ sub₀)))
    refine ⟨t, ?_, hpc.trans (pc_elemWr_markSingle ..), fun i sub hi hsub => ?_⟩
    · rw [runElements, markedSingle_elementR hops sg fn hi₀ hsub₀ s]
      exact ht
    · have hin : inFile xlen rd (flatIndex true fm.svl i sub) e.bits = true := hops.rd_inFile i sub hi hsub
      have hin₀ : inFile xlen rd (flatIndex true fm.svl i₀ sub₀) e.bits = true := hops.rd_inFile i₀ sub₀ hi₀ hsub₀
      rw [helem i sub hi hsub, laneValue_elemWr hops sg fn hi₀ hsub₀ hi hsub,
        elemRd_elemWr hops.rd_ne_zero hin hin₀, elemRd_markSingle]
      simp only [flatIndex_inj hsub hsub₀, List.mem_cons]
      by_cases heq : (i, sub) = (i₀, sub₀)
      · cases heq
        simp
      · simp [heq]

end

/-- The positions of a loop with a vector destination (R210, R216). -/
theorem mem_singlePositions {active : Nat → Bool} {vle svl i sub : Nat} :
    (i, sub) ∈ singlePositions active vle svl true ↔ (i < vle ∧ active i = true) ∧ sub < svl := by
  simp [singlePositions]

/-- After steps 2 and 3 of R223 the registers and VL are those that VLtyp leaves, and the loop starts where it did. -/
theorem beginPrefixed_frame (fm : Form) (s : State) :
    (∀ n, (beginPrefixed fm s).getX n = (applyVLtyp fm.vltyp s).getX n) ∧ (beginPrefixed fm s).pc = s.pc ∧
      (beginPrefixed fm s).vl = (applyVLtyp fm.vltyp s).vl ∧ (beginPrefixed fm s).srcoffs = s.srcoffs ∧
      (beginPrefixed fm s).dsvoffs = s.dsvoffs := by
  obtain ⟨hpc, hsrc, -, -, hdsv, -⟩ := applyVLtyp_frame fm.vltyp s
  obtain ⟨-, hpc', hX, hvl, -, hsrc', -, hdsv', -⟩ := writeSubvl_frame fm.svlen (applyVLtyp fm.vltyp s)
  exact ⟨hX, hpc'.trans hpc, hvl, hsrc'.trans hsrc, hdsv'.trans hdsv⟩

/-- Predicates are read from the registers alone (R210). -/
theorem predActive_congr {s t : State} (h : ∀ n, t.getX n = s.getX n) (pred : Pred) (i : Nat) :
    PredActive t pred i = PredActive s pred i := by
  cases pred <;> simp only [PredActive, h]

/-- The position of a loop zeroed, and the pc moved on, leave the elements. -/
theorem elemRd_advance_markSingle (fm : Form) (s : State) (len : Nat) (n : Reg) (k w : Nat) :
    elemRd ((fm.markSingle 0 0 s).advance len) n k w = elemRd s n k w :=
  (elemRd_congr (State.getX_advance ..)).trans (elemRd_markSingle ..)

/-- A P64-R instruction in vector form over its loop: the active positions hold their values, all others keep theirs. -/
theorem runPrefixed_elementR {fm : Form} {e : Ew} {rd rs1 rs2 : Reg} {s : State} (sg : Signedness)
    (fn : Word → Word → Word) (pred : Pred) (hlegal : fm.legal s.platform = true) (hctx : fm.ctxVL = true)
    (hsrc : s.srcoffs = 0#6) (hdsv : fm.ctxSV = true → s.dsvoffs = 0#2)
    (hops : ApartOperands e (applyVLtyp fm.vltyp s).vl.toNat fm.svl rd rs1 rs2) :
    ∃ t, runPrefixed fm true (runSingle fm pred true
        (elementR fm e.bits sg fn (operand64 rd true) (operand64 rs1 true) (operand64 rs2 true))) s = .next t ∧
      t.pc = s.pc + BitVec.ofNat 64 fm.ilen ∧
      ∀ i sub, i < (applyVLtyp fm.vltyp s).vl.toNat → sub < fm.svl →
        elemRd t rd (flatIndex true fm.svl i sub) e.bits =
          if PredActive (applyVLtyp fm.vltyp s) pred i then
            laneValue e sg fn rs1 rs2 (applyVLtyp fm.vltyp s) (flatIndex true fm.svl i sub)
          else elemRd (applyVLtyp fm.vltyp s) rd (flatIndex true fm.svl i sub) e.bits := by
  obtain ⟨hX, hpc, hvl, hsrc', hdsv'⟩ := beginPrefixed_frame fm s
  have hvle : fm.vle (beginPrefixed fm s) = (applyVLtyp fm.vltyp s).vl.toNat := by simp [Form.vle, hctx, hvl]
  have hfirst : fm.firstSrc (beginPrefixed fm s) = 0 := by simp [Form.firstSrc, hsrc', hsrc]
  have hfirstSub : fm.firstSub (beginPrefixed fm s) = 0 := by
    unfold Form.firstSub
    split
    case isTrue h => rw [hdsv', hdsv h]; rfl
    case isFalse => rfl
  obtain ⟨t, ht, hpct, helem⟩ := runElements_elementR hops sg fn
    (singlePositions (PredActive (beginPrefixed fm s) pred) (fm.vle (beginPrefixed fm s)) fm.svl true)
    (fun p hp => by
      obtain ⟨⟨hi, -⟩, hsub⟩ := mem_singlePositions.1 hp
      exact ⟨hvle ▸ hi, hsub⟩) (beginPrefixed fm s)
  refine ⟨(fm.markSingle 0 0 t).advance fm.ilen, ?_, ?_, fun i sub hi hsub => ?_⟩
  · simp only [runPrefixed, hlegal, Bool.and_true, if_true, singleLoopPositions fm pred true _ _ hfirst hfirstSub, ht]
  · rw [State.pc_advance, pc_markSingle, hpct, hpc]
  · rw [elemRd_advance_markSingle, helem i sub hi hsub]
    have hmem : (i, sub) ∈ singlePositions (PredActive (beginPrefixed fm s) pred) (fm.vle (beginPrefixed fm s))
        fm.svl true ↔ PredActive (applyVLtyp fm.vltyp s) pred i = true := by
      rw [mem_singlePositions, hvle, predActive_congr hX]
      simp [hi, hsub]
    simp only [hmem, laneValue, elemRd_congr (hX _)]

/-- The vector form of an instruction that is P64-R over its function. -/
theorem vectorElementsR_of_meaning {sg : Signedness} {ext : (w : Nat) → BitVec w → Word}
    (hext : ∀ {w} (v : BitVec w), extend sg v = ext w v) {mk : ROps 7 → Bool → VLtyp → Instr}
    {fn fn' : Word → Word → Word} (hfn : fn = fn')
    (hmk : ∀ o vd v s, exec (mk o vd v) s = prefixedR64 (mk o vd v) o vd v sg fn s) : VectorElementsR mk ext fn' := by
  subst hfn
  intro o v s hv hv1 hv2 hrd s1 svl w hsup hsrc hdsv hin0 hin1 hin2 hapart
  have hsvl : (form64 (mk o true v) o.svlen v).svl = svl := svl_eq _
  have hops : ApartOperands o.ew s1.vl.toNat (form64 (mk o true v) o.svlen v).svl o.rd o.rs1 o.rs2 :=
    hsvl ▸ ⟨hrd, hin0, hin1, hin2, hapart⟩
  obtain ⟨t, ht, hpc, helem⟩ := runPrefixed_elementR (fm := form64 (mk o true v) o.svlen v) sg fn o.pred
    ((legal_iff ..).2 hsup) ((ctxVL_iff _).2 hv) hsrc (fun h => hdsv ((ctxSV_iff _).1 h)) hops
  refine ⟨t, ?_, hpc, fun i sub hi hsub => ?_⟩
  · rw [hmk, prefixedR64, hv1, hv2]
    exact ht
  · have h := helem i sub hi (hsvl ▸ hsub)
    simp only [hsvl, laneValue, hext] at h
    exact h

/-- Settles O28: each instruction is P64-R over its function (R261). -/
theorem vectorRegisterElements : Obligations.VectorRegisterElements := by
  have hu {w : Nat} (v : BitVec w) : extend .unsigned v = zeroExtended w v := rfl
  have hs {w : Nat} (v : BitVec w) : extend .signed v = signExtended w v := rfl
  exact
    ⟨vectorElementsR_of_meaning hu (fn := fnAdd) rfl fun _ _ _ _ => rfl,
      vectorElementsR_of_meaning hu (fn := fnSub) rfl fun _ _ _ _ => rfl,
      vectorElementsR_of_meaning hu fnSll_eq fun _ _ _ _ => rfl,
      vectorElementsR_of_meaning hu fnSlt_eq fun _ _ _ _ => rfl,
      vectorElementsR_of_meaning hu fnSltu_eq fun _ _ _ _ => rfl,
      vectorElementsR_of_meaning hu (fn := fnXor) rfl fun _ _ _ _ => rfl,
      vectorElementsR_of_meaning hu fnSrl_eq fun _ _ _ _ => rfl,
      vectorElementsR_of_meaning hu fnSra_eq fun _ _ _ _ => rfl,
      vectorElementsR_of_meaning hu (fn := fnOr) rfl fun _ _ _ _ => rfl,
      vectorElementsR_of_meaning hu (fn := fnAnd) rfl fun _ _ _ _ => rfl,
      vectorElementsR_of_meaning hs (fn := fnAddw) rfl fun _ _ _ _ => rfl,
      vectorElementsR_of_meaning hs (fn := fnSubw) rfl fun _ _ _ _ => rfl,
      vectorElementsR_of_meaning hs fnSllw_eq fun _ _ _ _ => rfl,
      vectorElementsR_of_meaning hs fnSrlw_eq fun _ _ _ _ => rfl,
      vectorElementsR_of_meaning hs fnSraw_eq fun _ _ _ _ => rfl⟩

end Sys2Proof.Machine
end

section
/-!
PROOFS. The unprefixed integer computational instructions (40_base_scalar.md R135 to R164): the word of each format
decodes because the decoder undoes the encoder, each instruction is its function over one register write, and a word of
the opcode outside the listed codes is no instruction.
-/

namespace Sys2Proof.Machine

/-! ### Words (R72, R131) -/

section
variable {f7 op : BitVec 7} {f3 : BitVec 3}

/-- An R-type instruction is decoded from its word. -/
theorem decodesR_of_encode {i : BitVec 5 → BitVec 5 → BitVec 5 → Instr}
    (henc : ∀ rd rs1 rs2, encode (i rd rs1 rs2) = .w32 (encR f7 rs2 rs1 f3 rd op))
    (hwf : ∀ rd rs1 rs2, (i rd rs1 rs2).wf = true) : DecodesR f7 f3 op i := by
  intro rd rs1 rs2
  have h := decode_encode (hwf rd rs1 rs2)
  rwa [henc] at h

/-- An I-type instruction is decoded from its word. -/
theorem decodesI_of_encode {i : BitVec 5 → BitVec 5 → BitVec 12 → Instr}
    (henc : ∀ rd rs1 imm, encode (i rd rs1 imm) = .w32 (encI imm rs1 f3 rd op))
    (hwf : ∀ rd rs1 imm, (i rd rs1 imm).wf = true) : DecodesI f3 op i := by
  intro rd rs1 imm
  have h := decode_encode (hwf rd rs1 imm)
  rwa [henc] at h

end

/-- What every instruction of an opcode meets, a word of that opcode that does not meet it is none (R133). -/
theorem othersIllegal_of_decode32 {op : BitVec 7} {ok : BitVec 32 → Prop}
    (h : ∀ w i, w.extractLsb' 0 7 = op → decode32 w = .ok i → ok w) : OthersIllegal op ok :=
  fun w hop hok i hd => hok (h w i hop hd)

/-! ### The formats -/

/-- An R-type instruction over its function (R150 to R164). -/
theorem regRule_of_meaning {f7 op : BitVec 7} {f3 : BitVec 3} {i : BitVec 5 → BitVec 5 → BitVec 5 → Instr}
    {fn fn' : Word → Word → Word} (hfn : fn = fn')
    (hexec : ∀ rd rs1 rs2 s, exec (i rd rs1 rs2) s = baseReg fn rd rs1 rs2 s)
    (henc : ∀ rd rs1 rs2, encode (i rd rs1 rs2) = .w32 (encR f7 rs2 rs1 f3 rd op) := by intros; rfl)
    (hwf : ∀ rd rs1 rs2, (i rd rs1 rs2).wf = true := by intros; rfl) : RegRule f7 f3 op i fn' := by
  refine ⟨decodesR_of_encode henc hwf, fun rd rs1 rs2 s => ?_⟩
  rw [hexec, hfn]
  exact writesX_setX_advance ..

/-- An I-type instruction over its function of the immediate (R137 to R142, R146). -/
theorem immRule_of_meaning {op : BitVec 7} {f3 : BitVec 3} {i : BitVec 5 → BitVec 5 → BitVec 12 → Instr}
    {fn : BitVec 12 → Word → Word} {fn' : Word → Word → Word}
    (hfn : ∀ imm, fn imm = fun a => fn' a (imm.signExtend 64))
    (hexec : ∀ rd rs1 imm s, exec (i rd rs1 imm) s = baseImm (fn imm) rd rs1 s)
    (henc : ∀ rd rs1 imm, encode (i rd rs1 imm) = .w32 (encI imm rs1 f3 rd op) := by intros; rfl)
    (hwf : ∀ rd rs1 imm, (i rd rs1 imm).wf = true := by intros; rfl) : ImmRule f3 op i fn' := by
  refine ⟨decodesI_of_encode henc hwf, fun rd rs1 imm s => ?_⟩
  rw [hexec, hfn]
  exact writesX_setX_advance ..

/-- A shift by an immediate over its function of the amount (R143 to R145, R147 to R149). -/
theorem shiftRule_of_meaning {k m : Nat} {h : m + k = 12} {top : BitVec m} {op : BitVec 7} {f3 : BitVec 3}
    {i : BitVec 5 → BitVec 5 → BitVec k → Instr} {fn : BitVec k → Word → Word} {fn' : Word → Nat → Word}
    (hfn : ∀ shamt, fn shamt = fun a => fn' a shamt.toNat)
    (hexec : ∀ rd rs1 shamt s, exec (i rd rs1 shamt) s = baseImm (fn shamt) rd rs1 s)
    (henc : ∀ rd rs1 shamt, encode (i rd rs1 shamt) = .w32 (encI ((top ++ shamt).cast h) rs1 f3 rd op) := by
      intros; rfl)
    (hwf : ∀ rd rs1 shamt, (i rd rs1 shamt).wf = true := by intros; rfl) :
    ShiftRule h top f3 op i fn' := by
  intro rd rs1 shamt
  refine ⟨?_, fun s => ?_⟩
  · have hd := decode_encode (hwf rd rs1 shamt)
    rwa [henc] at hd
  · rw [hexec, hfn]
    exact writesX_setX_advance ..

/-- Settles O8: each instruction is its function of two registers. -/
theorem baseRegister : Obligations.BaseRegister :=
  ⟨regRule_of_meaning (fn := fnAdd) rfl fun _ _ _ _ => rfl,
    regRule_of_meaning (fn := fnSub) rfl fun _ _ _ _ => rfl,
    regRule_of_meaning fnSll_eq fun _ _ _ _ => rfl,
    regRule_of_meaning fnSlt_eq fun _ _ _ _ => rfl,
    regRule_of_meaning fnSltu_eq fun _ _ _ _ => rfl,
    regRule_of_meaning (fn := fnXor) rfl fun _ _ _ _ => rfl,
    regRule_of_meaning fnSrl_eq fun _ _ _ _ => rfl,
    regRule_of_meaning fnSra_eq fun _ _ _ _ => rfl,
    regRule_of_meaning (fn := fnOr) rfl fun _ _ _ _ => rfl,
    regRule_of_meaning (fn := fnAnd) rfl fun _ _ _ _ => rfl⟩

/-- Settles O9: the five meanings, then the codes of OP-32 that the decoder accepts. -/
theorem baseRegisterWord : Obligations.BaseRegisterWord := by
  refine ⟨regRule_of_meaning (fn := fnAddw) rfl fun _ _ _ _ => rfl,
    regRule_of_meaning (fn := fnSubw) rfl fun _ _ _ _ => rfl,
    regRule_of_meaning fnSllw_eq fun _ _ _ _ => rfl,
    regRule_of_meaning fnSrlw_eq fun _ _ _ _ => rfl,
    regRule_of_meaning fnSraw_eq fun _ _ _ _ => rfl,
    othersIllegal_of_decode32 fun w i hop hd => ?_⟩
  simp only [decode32, hop, BitVec.reduceToNat] at hd
  split at hd
  case h_1 hf3 =>
    have hf3 := extract_eq_of_toNat (f := 0b000#3) hf3
    split_ifs at hd with h0 h1
    · exact .inl ⟨h0, .inl hf3⟩
    · exact .inr ⟨h1, .inl hf3⟩
  case h_2 hf3 =>
    split_ifs at hd with h0
    exact .inl ⟨h0, .inr (.inl (extract_eq_of_toNat hf3))⟩
  case h_3 hf3 =>
    have hf3 := extract_eq_of_toNat (f := 0b101#3) hf3
    split_ifs at hd with h0 h1
    · exact .inl ⟨h0, .inr (.inr hf3)⟩
    · exact .inr ⟨h1, .inr hf3⟩
  case h_4 => cases hd

/-- Settles O10: each instruction is its function of a register and the extended immediate. -/
theorem baseImmediate : Obligations.BaseImmediate :=
  ⟨immRule_of_meaning (fn := fnAddi) (fun _ => rfl) fun _ _ _ _ => rfl,
    immRule_of_meaning fnSlti_eq fun _ _ _ _ => rfl,
    immRule_of_meaning fnSltiu_eq fun _ _ _ _ => rfl,
    immRule_of_meaning (fn := fnXori) (fun _ => rfl) fun _ _ _ _ => rfl,
    immRule_of_meaning (fn := fnOri) (fun _ => rfl) fun _ _ _ _ => rfl,
    immRule_of_meaning (fn := fnAndi) (fun _ => rfl) fun _ _ _ _ => rfl⟩

/-- Settles O11: the three meanings, then bits 31:26 of the two shift codes. -/
theorem baseShiftImmediate : Obligations.BaseShiftImmediate := by
  refine ⟨shiftRule_of_meaning (fn := fnSlli) (fun _ => rfl) fun _ _ _ _ => rfl,
    shiftRule_of_meaning (fn := fnSrli) (fun _ => rfl) fun _ _ _ _ => rfl,
    shiftRule_of_meaning (fn := fnSrai) (fun _ => rfl) fun _ _ _ _ => rfl,
    othersIllegal_of_decode32 fun w i hop hd => ⟨fun hf3 => ?_, fun hf3 => ?_⟩⟩
  · simp only [decode32, hop, hf3, BitVec.reduceToNat] at hd
    split_ifs at hd with h0
    exact h0
  · simp only [decode32, hop, hf3, BitVec.reduceToNat] at hd
    split_ifs at hd with h0 h1
    · exact .inl h0
    · exact .inr h1

/-- Settles O12: the four meanings, then the codes of OP-IMM-32 that the decoder accepts. -/
theorem baseImmediateWord : Obligations.BaseImmediateWord := by
  refine ⟨immRule_of_meaning (fn := fnAddiw) (fun _ => rfl) fun _ _ _ _ => rfl,
    shiftRule_of_meaning (fn := fnSlliw) (fun _ => rfl) fun _ _ _ _ => rfl,
    shiftRule_of_meaning (fn := fnSrliw) (fun _ => rfl) fun _ _ _ _ => rfl,
    shiftRule_of_meaning (fn := fnSraiw) (fun _ => rfl) fun _ _ _ _ => rfl,
    othersIllegal_of_decode32 fun w i hop hd => ?_⟩
  simp only [decode32, hop, BitVec.reduceToNat] at hd
  split at hd
  case h_1 hf3 => exact .inl (extract_eq_of_toNat hf3)
  case h_2 hf3 =>
    split_ifs at hd with h0
    exact .inr (.inl ⟨extract_eq_of_toNat hf3, h0⟩)
  case h_3 hf3 =>
    have hf3 := extract_eq_of_toNat (f := 0b101#3) hf3
    split_ifs at hd with h0 h1
    · exact .inr (.inr ⟨hf3, .inl h0⟩)
    · exact .inr (.inr ⟨hf3, .inr h1⟩)
  case h_4 => cases hd

/-- Settles O13: both words read back, and each instruction writes its value. -/
theorem baseUpperImmediate : Obligations.BaseUpperImmediate :=
  ⟨fun rd imm => ⟨decode_encode (i := .lui rd imm) rfl, decode_encode (i := .auipc rd imm) rfl⟩,
    fun rd _ s => ⟨writesX_setX_advance s (reg5 rd) _ 4, writesX_setX_advance s (reg5 rd) _ 4⟩⟩

end Sys2Proof.Machine
end

section
/-!
PROOFS. The unprefixed loads and stores (40_base_scalar.md R165 to R175): each is one access at `x[rs1]` plus the
extended immediate, and what the access answers decides between the result and the exception.
-/

namespace Sys2Proof.Machine

/-! ### Loads -/

/-- Putting bytes together raises no exception: a byte without a value stops the model (R381). -/
theorem readLE_ne_raise (m : Memory) (a n : Nat) (c : Cause) (v : Word) : readLE m a n ≠ .error (.raise c v) := by
  induction n generalizing a with
  | zero => exact nofun
  | succ n ih =>
    unfold readLE
    cases Memory.read m a with
    | none => exact nofun
    | some b =>
      cases h : readLE m (a + 1) n with
      | error e => exact fun he => ih (a + 1) (h.trans he)
      | ok high => exact nofun

/-- An aligned read is not misaligned (R53). -/
theorem memRead_ne_misaligned {s : State} {a : Word} {n : Nat} (h : a.toNat % n = 0) :
    memRead s a n ≠ .error (.raise .loadAddressMisaligned a) := by
  cases hb : backedRange s.platform a.toNat n with
  | false => rw [memRead_unbacked h hb]; exact nofun
  | true => rw [memRead_eq h hb]; exact readLE_ne_raise s.mem a.toNat n _ _

/-- An address whose low `k` bits are not all zero is misaligned for 2^k bytes (R53). -/
theorem memRead_misaligned_of_extract {s : State} {a : Word} {k : Nat} (h : a.extractLsb' 0 k ≠ 0#k) :
    memRead s a (2 ^ k) = .error (.raise .loadAddressMisaligned a) := by
  refine memRead_misaligned fun hmod => h (BitVec.eq_of_toNat_eq ?_)
  simpa [BitVec.extractLsb'_toNat] using hmod

/-- A load over the extension it makes (R165 to R171). -/
theorem loadRule_of_meaning {f3 : BitVec 3} {n : Nat} {sg : Signedness} {i : BitVec 5 → BitVec 5 → BitVec 12 → Instr}
    {ext : Quad → Word} (hext : loadExtend n sg = ext)
    (hexec : ∀ rd rs1 imm s, exec (i rd rs1 imm) s = baseLoad n sg rd rs1 imm s)
    (henc : ∀ rd rs1 imm, encode (i rd rs1 imm) = .w32 (encI imm rs1 f3 rd 0b0000011#7) := by intros; rfl)
    (hwf : ∀ rd rs1 imm, (i rd rs1 imm).wf = true := by intros; rfl) : LoadRule f3 n i ext := by
  refine ⟨decodesI_of_encode henc hwf, fun rd rs1 imm s => ⟨fun m hm => ?_, fun c v hraise => ?_⟩⟩
  · rw [hexec, baseLoad, immI, hm, ← hext]
    exact writesX_setX_advance ..
  · rw [hexec, baseLoad, immI, hraise]
    exact traps_takeTrap ..

/-- Settles O14: the seven meanings, the one code of LOAD without an instruction, and the alignment of each size. -/
theorem baseLoads : Obligations.BaseLoads := by
  refine ⟨loadRule_of_meaning (sg := .signed) rfl fun _ _ _ _ => rfl,
    loadRule_of_meaning (sg := .signed) rfl fun _ _ _ _ => rfl,
    loadRule_of_meaning (sg := .signed) rfl fun _ _ _ _ => rfl,
    loadRule_of_meaning (sg := .unsigned) ?_ fun _ _ _ _ => rfl,
    loadRule_of_meaning (sg := .unsigned) rfl fun _ _ _ _ => rfl,
    loadRule_of_meaning (sg := .unsigned) rfl fun _ _ _ _ => rfl,
    loadRule_of_meaning (sg := .unsigned) rfl fun _ _ _ _ => rfl,
    othersIllegal_of_decode32 fun w i hop hd hf3 => ?_,
    fun s a => memRead_ne_misaligned (Nat.mod_one _), fun s a h => ?_,
    fun s a => memRead_misaligned_of_extract (k := 2), fun s a => memRead_misaligned_of_extract (k := 3)⟩
  · funext m
    exact BitVec.setWidth_eq ..
  · simp only [decode32, hop, hf3, BitVec.reduceToNat] at hd
    cases hd
  · refine memRead_misaligned_of_extract (k := 1) fun h0 => ?_
    have hbit := congrArg (·.getLsbD 0) h0
    simp [-BitVec.getLsbD_eq_getElem, h] at hbit

/-! ### Stores -/

/-- A store of the low `n` bytes of a register (R172 to R175). -/
theorem storeRule_of_meaning {f3 : BitVec 3} {n : Nat} {i : BitVec 5 → BitVec 5 → BitVec 12 → Instr}
    (hexec : ∀ rs1 rs2 imm s, exec (i rs1 rs2 imm) s = baseStore n rs1 rs2 imm s)
    (henc : ∀ rs1 rs2 imm, encode (i rs1 rs2 imm) = .w32 (encS imm rs2 rs1 f3 0b0100011#7) := by intros; rfl)
    (hwf : ∀ rs1 rs2 imm, (i rs1 rs2 imm).wf = true := by intros; rfl) : StoreRule f3 n i := by
  refine ⟨fun rs1 rs2 lo hi => ?_, fun rs1 rs2 imm s => ?_⟩
  · have hd := decode_encode (hwf rs1 rs2 (hi ++ lo))
    rwa [henc, encS, extract_append_high _ _ _ _ le_rfl, Nat.sub_self, extract_whole,
      extract_append_low _ _ _ _ le_rfl, extract_whole] at hd
  · rw [hexec, baseStore, immI]
    refine ⟨fun halign hbacked => ?_, fun halign => ?_, fun halign hhole => ?_⟩
    · rw [memWrite_eq halign ((backedRange_iff ..).2 hbacked)]
      exact stores_store_advance ..
    · rw [memWrite_misaligned halign]
      exact traps_takeTrap ..
    · rw [memWrite_unbacked halign (backedRange_eq_false hhole)]
      exact traps_takeTrap ..

/-- Settles O15: the four meanings, then bit 14 of the codes of STORE that the decoder accepts. -/
theorem baseStores : Obligations.BaseStores := by
  refine ⟨storeRule_of_meaning fun _ _ _ _ => rfl, storeRule_of_meaning fun _ _ _ _ => rfl,
    storeRule_of_meaning fun _ _ _ _ => rfl, storeRule_of_meaning fun _ _ _ _ => rfl,
    othersIllegal_of_decode32 fun w i hop hd => ?_⟩
  simp only [decode32, hop, BitVec.reduceToNat] at hd
  have hbit : w.extractLsb' 14 1 = (w.extractLsb' 12 3).extractLsb' 2 1 :=
    (extract_extract w 12 3 2 1 (by omega)).symm
  split at hd
  case h_1 hf3 => rw [hbit, extract_eq_of_toNat (f := 0b000#3) hf3]; rfl
  case h_2 hf3 => rw [hbit, extract_eq_of_toNat (f := 0b001#3) hf3]; rfl
  case h_3 hf3 => rw [hbit, extract_eq_of_toNat (f := 0b010#3) hf3]; rfl
  case h_4 hf3 => rw [hbit, extract_eq_of_toNat (f := 0b011#3) hf3]; rfl
  case h_5 => cases hd

end Sys2Proof.Machine
end

section
/-!
PROOFS. Control transfer, FENCE, the system calls and the CSR instructions (40_base_scalar.md R176 to R192).
-/

namespace Sys2Proof.Machine

/-! ### Jumps and branches -/

/-- A jump changes the pc alone. -/
theorem onlyJumps_jump (s : State) (t : Word) : OnlyJumps s (.next (s.jump t)) t :=
  ⟨s.jump t, rfl, by simp [SameRest]⟩

/-- A jump that leaves a link changes the pc and the link register (R176, R177). -/
theorem writesXTo_setX_jump (s : State) (rd : Reg) (v t : Word) :
    WritesXTo s (.next ((s.setX rd v).jump t)) rd v t :=
  ⟨(s.setX rd v).jump t, rfl, by simp [State.getX_setX, SameRest]⟩

/-- The B-type word lays out the four parts of an offset with bit 0 clear (R131). -/
theorem encB_append (b12 b11 : BitVec 1) (b10to5 : BitVec 6) (b4to1 : BitVec 4) (rs2 rs1 : BitVec 5) (f3 : BitVec 3)
    (op : BitVec 7) :
    encB (b12 ++ b11 ++ b10to5 ++ b4to1 ++ 0#1) rs2 rs1 f3 op =
      b12 ++ b10to5 ++ rs2 ++ rs1 ++ f3 ++ b4to1 ++ b11 ++ op := by
  simp (disch := omega) only [encB, extract_append_high, extract_append_low, extract_whole, Nat.reduceSub]

/-- The J-type word lays out the four parts of an offset with bit 0 clear (R131). -/
theorem encJ_append (b20 b11 : BitVec 1) (b19to12 : BitVec 8) (b10to1 : BitVec 10) (rd : BitVec 5) (op : BitVec 7) :
    encJ (b20 ++ b19to12 ++ b11 ++ b10to1 ++ 0#1) rd op = b20 ++ b10to1 ++ b11 ++ b19to12 ++ rd ++ op := by
  simp (disch := omega) only [encJ, extract_append_high, extract_append_low, extract_whole, Nat.reduceSub]

/-- A branch over its condition (R178 to R183). -/
theorem branchRule_of_meaning {f3 : BitVec 3} {i : BitVec 5 → BitVec 5 → BitVec 13 → Instr}
    {cond : Word → Word → Bool} {taken : Word → Word → Prop} (hcond : ∀ a b, cond a b = true ↔ taken a b)
    (hexec : ∀ rs1 rs2 offset s, exec (i rs1 rs2 offset) s =
      branch (cond (s.getX (reg5 rs1)) (s.getX (reg5 rs2))) offset s)
    (henc : ∀ rs1 rs2 offset, encode (i rs1 rs2 offset) = .w32 (encB offset rs2 rs1 f3 0b1100011#7) := by
      intros; rfl)
    (hwf : ∀ rs1 rs2 offset, (i rs1 rs2 offset).wf = !offset.getLsbD 0 := by intros; rfl) :
    BranchRule f3 i taken := by
  refine ⟨fun rs1 rs2 b12 b11 b10to5 b4to1 => ?_, fun rs1 rs2 offset s => ⟨fun h => ?_, fun h => ?_⟩⟩
  · have hd := decode_encode (i := i rs1 rs2 (b12 ++ b11 ++ b10to5 ++ b4to1 ++ 0#1))
      (by rw [hwf, getLsbD_zero_append]; rfl)
    rwa [henc, encB_append] at hd
  · rw [hexec, branch, (hcond ..).2 h]
    exact onlyJumps_jump ..
  · rw [hexec, branch, Bool.eq_false_iff.2 (mt (hcond ..).1 h)]
    exact onlyAdvances_advance ..

/-- Settles O16: both words read back, the link is written, and JALR has one funct3. -/
theorem baseJumps : Obligations.BaseJumps := by
  refine ⟨fun rd b20 b11 b19to12 b10to1 => ?_, decodesI_of_encode (fun _ _ _ => rfl) (fun _ _ _ => rfl),
    othersIllegal_of_decode32 fun w i hop hd => ?_, fun rd offset s => writesXTo_setX_jump ..,
    fun rd rs1 imm s => writesXTo_setX_jump ..⟩
  · have hd := decode_encode (i := .jal rd (b20 ++ b19to12 ++ b11 ++ b10to1 ++ 0#1))
      (by rw [Instr.wf, getLsbD_zero_append]; rfl)
    rwa [encode, encJ_append] at hd
  · simp only [decode32, hop, BitVec.reduceToNat] at hd
    split_ifs at hd with hf3
    exact hf3

/-- Settles O17: the six conditions, then the two codes of BRANCH without an instruction. -/
theorem baseBranches : Obligations.BaseBranches := by
  refine ⟨branchRule_of_meaning (cond := (· == ·)) (fun _ _ => beq_iff_eq) fun _ _ _ _ => rfl,
    branchRule_of_meaning (cond := (· != ·)) (fun _ _ => bne_iff_ne) fun _ _ _ _ => rfl,
    branchRule_of_meaning (cond := BitVec.slt) (fun _ _ => BitVec.slt_iff_toInt_lt) fun _ _ _ _ => rfl,
    branchRule_of_meaning (cond := fun a b => !a.slt b) (fun a b => by simp [BitVec.slt]) fun _ _ _ _ => rfl,
    branchRule_of_meaning (cond := BitVec.ult) (fun _ _ => BitVec.ult_iff_toNat_lt) fun _ _ _ _ => rfl,
    branchRule_of_meaning (cond := fun a b => !a.ult b) (fun a b => by simp [BitVec.ult]) fun _ _ _ _ => rfl,
    othersIllegal_of_decode32 fun w i hop hd => ⟨fun hf3 => ?_, fun hf3 => ?_⟩⟩ <;>
  · simp only [decode32, hop, hf3, BitVec.reduceToNat] at hd
    cases hd

/-! ### FENCE and the system calls -/

/-- Settles O18: FENCE moves the pc on, whatever its fields, and its opcode has one funct3. -/
theorem fenceAdvances : Obligations.FenceAdvances := by
  refine ⟨decodesI_of_encode (fun _ _ _ => rfl) (fun _ _ _ => rfl), othersIllegal_of_decode32 fun w i hop hd => ?_,
    fun _ _ _ s => onlyAdvances_advance s 4⟩
  simp only [decode32, hop, BitVec.reduceToNat] at hd
  split_ifs at hd with hf3
  exact hf3

/-- Settles O19: two words of SYSTEM with funct3 000 decode, and each takes its exception. -/
theorem systemCalls : Obligations.SystemCalls := by
  refine ⟨decode_encode (i := .ecall) rfl, decode_encode (i := .ebreak) rfl,
    othersIllegal_of_decode32 fun w i hop hd hf3 => ?_, fun s => traps_takeTrap s .environmentCall 0#64,
    fun s => traps_takeTrap s .breakpoint s.pc⟩
  simp only [decode32, hop, hf3, BitVec.reduceToNat] at hd
  split_ifs at hd with hcall hbreak
  · exact .inl hcall
  · exact .inr hbreak

/-! ### CSR instructions -/

/-- The mask of unsupported bits, bit by bit (R36). -/
theorem getLsbD_unsupportedBits (p : Platform) {b : Nat} (hb : b < 64) :
    (unsupportedBits p).getLsbD b = true ↔ Unsupported p b := by
  unfold unsupportedBits Unsupported
  generalize p.vltypSupported = vltyp
  generalize p.svlenSupported = svlen
  revert vltyp svlen b
  decide

/-- A value passes the check of R36 when each of its unsupported bits is zero. -/
theorem and_unsupportedBits_eq_zero (p : Platform) (v : Word) :
    v &&& unsupportedBits p = 0#64 ↔ ∀ b, b < 64 → Unsupported p b → v.getLsbD b = false := by
  refine ⟨fun h b hb hu => ?_, fun h => BitVec.eq_of_getLsbD_eq fun b hb => ?_⟩
  · have hbit := congrArg (·.getLsbD b) h
    simpa only [BitVec.getLsbD_and, (getLsbD_unsupportedBits p hb).2 hu, Bool.and_true, BitVec.getLsbD_zero]
      using hbit
  · rw [BitVec.getLsbD_and, BitVec.getLsbD_zero]
    cases hm : (unsupportedBits p).getLsbD b with
    | false => exact Bool.and_false _
    | true => rw [h b hb ((getLsbD_unsupportedBits p hb).1 hm)]; rfl

section
variable {i : Instr} {rd : BitVec 5} {csr : BitVec 12} {s : State}

/-- A CSR access at any other address is illegal (R35). -/
theorem traps_csrAccess (write : Option Word) (h : csr ≠ s.platform.csrSvpstate) :
    Traps s (csrAccess i rd csr write s) .illegalInstruction i.word := by
  unfold csrAccess
  rw [if_neg h]
  exact traps_illegal ..

/-- A CSR instruction that writes `v` (R35, R36). -/
theorem csrWriteRule_of_meaning {v : Word} (hexec : exec i s = csrAccess i rd csr (some v) s) :
    CsrWriteRule i rd csr s v := by
  rw [CsrWriteRule, hexec]
  refine ⟨fun hcsr hv => ?_, fun hcsr hv => ?_, traps_csrAccess _⟩
  · rw [csrAccess, if_pos hcsr, if_pos ((and_unsupportedBits_eq_zero ..).2 hv)]
    exact ⟨_, rfl, by simp, by simp, by simp [State.getX_setX, State.csrRead], by simp [SameRest]⟩
  · have hv : ¬v &&& unsupportedBits s.platform = 0#64 := fun h => by
      obtain ⟨b, hb, hu, hbit⟩ := hv
      rw [(and_unsupportedBits_eq_zero ..).1 h b hb hu] at hbit
      cases hbit
    rw [csrAccess, if_pos hcsr, if_neg hv]
    exact traps_illegal ..

/-- A CSR instruction that only reads (R35). -/
theorem csrReadRule_of_meaning (hexec : exec i s = csrAccess i rd csr none s) : CsrReadRule i rd csr s := by
  rw [CsrReadRule, hexec]
  refine ⟨fun hcsr => ?_, traps_csrAccess _⟩
  rw [csrAccess, if_pos hcsr]
  exact writesX_setX_advance ..

/-- A set or clear form writes unless its source field is zero (R188, R189, R191, R192). -/
theorem exec_csr_of_ne {rs1 : BitVec 5} {v : Word}
    (hexec : exec i s = csrAccess i rd csr (if rs1 = 0#5 then none else some v) s) (h : rs1 ≠ 0#5) :
    exec i s = csrAccess i rd csr (some v) s := by
  rw [hexec, if_neg h]

end

/-- Settles O20: the six words, the one code of SYSTEM without an instruction, and the write or read of each. -/
theorem csrInstructions : Obligations.CsrInstructions := by
  refine ⟨decodesI_of_encode (fun _ _ _ => rfl) (fun _ _ _ => rfl),
    decodesI_of_encode (fun _ _ _ => rfl) (fun _ _ _ => rfl),
    decodesI_of_encode (fun _ _ _ => rfl) (fun _ _ _ => rfl),
    decodesI_of_encode (fun _ _ _ => rfl) (fun _ _ _ => rfl),
    decodesI_of_encode (fun _ _ _ => rfl) (fun _ _ _ => rfl),
    decodesI_of_encode (fun _ _ _ => rfl) (fun _ _ _ => rfl),
    othersIllegal_of_decode32 fun w i hop hd hf3 => ?_, fun rd rs1 csr s => ?_⟩
  · simp only [decode32, hop, hf3, BitVec.reduceToNat] at hd
    cases hd
  · refine ⟨csrWriteRule_of_meaning rfl, csrWriteRule_of_meaning rfl,
      fun h => csrWriteRule_of_meaning (exec_csr_of_ne rfl h),
      fun h => csrWriteRule_of_meaning (exec_csr_of_ne rfl h),
      fun h => csrWriteRule_of_meaning (exec_csr_of_ne rfl h),
      fun h => csrWriteRule_of_meaning (exec_csr_of_ne rfl h), ?_⟩
    rintro rfl
    exact ⟨csrReadRule_of_meaning rfl, csrReadRule_of_meaning rfl, csrReadRule_of_meaning rfl,
      csrReadRule_of_meaning rfl⟩

end Sys2Proof.Machine
end

section
/-!
PROOFS. Floating-point arithmetic with neither context, prefixed or not (44_p48_float.md R280 to R289): one element
whose value is the open function of its sources, and the words of the classes that raise.
-/

namespace Sys2Proof.Machine

/-! ### The pieces of one element -/

/-- Element 0 of an operand of either file is in its file (R205, R292). -/
theorem elemInFile_zero (s : State) (t : ElemType) (n : Reg) : elemInFile s t n 0 = true := by
  obtain ⟨file, w⟩ := t
  cases file <;> exact inFile_zero ..

/-- An integer element is the low part of its x register (R207). -/
theorem readElem_x (s : State) (w : Nat) (n : Reg) :
    readElem s ⟨.x, w⟩ n 0 = ((s.getX n).setWidth w).setWidth 128 :=
  congrArg (·.setWidth 128) (elemRd_zero s n w)

/-- A floating-point element is the low part of its f register (R283). -/
theorem readElem_f (s : State) (w : Nat) (n : Reg) :
    readElem s ⟨.f, w⟩ n 0 = ((s.getF n).setWidth w).setWidth 128 :=
  congrArg (·.setWidth 128) (felemRd_zero s n w)

/-- The sources of an OP-FP instruction at element 0 (R285). -/
def opFpSources (s : State) (sh : FpShape) (rs1 rs2 : Reg) : List Quad :=
  match sh.src2 with
  | none => [readElem s sh.src1 rs1 0]
  | some t => [readElem s sh.src1 rs1 0, readElem s t rs2 0]

/-- The first element of OP-FP (R285). -/
theorem elementFR_zero (fm : Form) (base : BitVec 32) (sh : FpShape) (rd rs1 rs2 : Operand) (s : State) :
    elementFR fm base sh rd rs1 rs2 0 0 s =
      .ok (fpFinish s base sh.dest rd.reg 0 (opFpSources s sh rs1.reg rs2.reg)) := by
  unfold elementFR opFpSources
  cases sh.src2 <;> simp [elemInFile_zero]

/-- The first element of a fused multiply-add (R289). -/
theorem elementFR4_zero (fm : Form) (base : BitVec 32) (t : ElemType) (rd rs1 rs2 rs3 : Operand) (s : State) :
    elementFR4 fm base t rd rs1 rs2 rs3 0 0 s =
      .ok (fpFinish s base t rd.reg 0 [readElem s t rs1.reg 0, readElem s t rs2.reg 0, readElem s t rs3.reg 0]) := by
  simp [elementFR4, elemInFile_zero]

/-! ### Results -/

/-- Flags are accumulated by bitwise or (R284). -/
@[simp] theorem State.fcsr_accrue (s : State) (b : BitVec 5) : (s.accrue b).fcsr = s.fcsr ||| b.setWidth 32 := rfl

/-- A result in the f file, its flags accumulated, and the pc moved on (R284, R285). -/
theorem writesF_fpFinish (s : State) (base : BitVec 32) (w : Nat) (rd : Reg) (srcs : List Quad) (n : Nat) :
    WritesF s (.next ((fpFinish s base ⟨.f, w⟩ rd 0 srcs).advance n)) rd
      (withLowF (s.getF rd) w (Config.fpOp base s.frm srcs).1) (Config.fpOp base s.frm srcs).2 n := by
  have hwrite : ∀ v, writeElem s ⟨.f, w⟩ rd 0 v = s.setF rd (withLowF (s.getF rd) w v) := felemWr_zero s rd w
  refine ⟨_, rfl, ?_⟩
  simp [fpFinish, hwrite, State.getF_setF]

/-- A result in the x file, its flags accumulated, and the pc moved on (R284, R285). -/
theorem writesXFlags_fpFinish (s : State) (base : BitVec 32) (rd : Reg) (srcs : List Quad) (n : Nat) :
    WritesXFlags s (.next ((fpFinish s base intElem rd 0 srcs).advance n)) rd
      (withLow (s.getX rd) 64 ((Config.fpOp base s.frm srcs).1.setWidth 64)) (Config.fpOp base s.frm srcs).2 n := by
  have hwrite : ∀ v : Quad, writeElem s intElem rd 0 v = s.setX rd (withLow (s.getX rd) 64 (v.setWidth 64)) :=
    fun v => elemWr_zero s rd 64 (v.setWidth 64)
  refine ⟨_, rfl, ?_⟩
  simp [fpFinish, hwrite, State.getX_setX]

/-! ### What the classes accept -/

/-- A prefixed run whose own check fails is illegal (R223). -/
theorem traps_runPrefixed_false (fm : Form) (loop : State → LoopResult) (s : State) :
    Traps s (runPrefixed fm false loop s) .illegalInstruction fm.word := by
  simp only [runPrefixed, Bool.and_false, Bool.false_eq_true, if_false]
  exact traps_illegal ..

/-- A floating-point format fits when FLEN is at least its width (log 24). -/
theorem fits_fpElem (fmt : BitVec 2) (p : Platform) : (fpElem fmt).fits p = decide (fmtWidth fmt ≤ p.flen.bits) := rfl

/-- A destination in the x file is an integer element (R283). -/
theorem dest_eq_intElem_of_opFpShape {fmt : BitVec 2} {funct5 : BitVec 5} {rm : BitVec 3} {rs2 : BitVec 5}
    {sh : FpShape} (h : opFpShape fmt funct5 rm rs2 = some sh) (hx : sh.dest.file = .x) : sh.dest = intElem := by
  unfold opFpShape at h
  dsimp only at h
  split at h
  case h_1 | h_2 | h_3 | h_4 =>  -- FADD, FSUB, FMUL, FDIV
    cases h
    cases hx
  case h_5 | h_6 | h_7 | h_8 | h_11 | h_13 =>  -- FSQRT, FSGNJ, FMIN and FMAX, FCVT and FMV into f
    split_ifs at h
    cases h
    cases hx
  case h_9 | h_10 | h_12 =>  -- comparisons, FCVT and FMV into x, FCLASS
    split_ifs at h
    cases h
    rfl
  case h_14 => cases h

/-! ### One element -/

section
variable {fm : Form} (hv : fm.vltyp = .default) (hs : fm.svlen = .subvl)
include hv hs

/-- A fused multiply-add with neither context. -/
theorem fusedElement_runFusedMul (base : BitVec 32) (fmt : BitVec 2) (pred : Pred) (rd rs1 rs2 rs3 : Operand)
    (s : State) :
    FusedElement s (runFusedMul fm base fmt pred rd rs1 rs2 rs3 s) (PredActive s pred 0) fm.word base fmt rd.reg
      rs1.reg rs2.reg rs3.reg fm.ilen := by
  intro hF
  refine ⟨fun hwide => ?_, fun hfits => ?_⟩
  · rw [runFusedMul, fits_fpElem, decide_eq_false (Nat.not_le.2 hwide), Bool.and_false]
    exact traps_runPrefixed_false ..
  · rw [runFusedMul, fits_fpElem, decide_eq_true hfits, hF, Bool.and_self]
    refine ⟨fun hact => ?_, runSingle_inactive hv hs _ _⟩
    rw [runSingle_active hv hs hact (elementFR4_zero ..), fpElem, readElem_f, readElem_f, readElem_f]
    exact writesF_fpFinish ..

/-- OP-FP with neither context. -/
theorem opFpElement_runOpFp (base : BitVec 32) {shape : Option FpShape}
    (hshape : ∀ sh, shape = some sh → sh.dest.file = .x → sh.dest = intElem) (pred : Pred) (rd rs1 rs2 : Operand)
    (s : State) :
    OpFpElement s (runOpFp fm base shape pred rd rs1 rs2 s) (PredActive s pred 0) fm.word base shape rd.reg rs1.reg
      rs2.reg fm.ilen := by
  refine ⟨?_, ?_, ?_⟩
  · rintro rfl
    exact traps_illegal ..
  · rintro sh rfl hwide
    rw [runOpFp, hwide, Bool.and_false]
    exact traps_runPrefixed_false ..
  · rintro sh rfl hF hfits value srcs res
    have hvalue : ∀ t n, readElem s t n 0 = value t n := by
      rintro ⟨file, w⟩ n
      cases file
      · exact readElem_x s w n
      · exact readElem_f s w n
    have hsrcs : opFpSources s sh rs1.reg rs2.reg = srcs := by
      simp only [opFpSources, hvalue]
      rfl
    have hop := elementFR_zero fm base sh rd rs1 rs2 s
    rw [hsrcs] at hop
    rw [runOpFp, hF, hfits, Bool.and_true]
    refine ⟨fun hact hfile => ?_, fun hact hfile => ?_, runSingle_inactive hv hs _ _⟩
    · have hdest : sh.dest = ⟨.f, sh.dest.width⟩ := by rw [← hfile]
      rw [runSingle_active hv hs hact hop, hdest]
      exact writesF_fpFinish ..
    · rw [runSingle_active hv hs hact hop, hshape sh rfl hfile]
      exact writesXFlags_fpFinish ..

end

/-! ### Unprefixed words -/

/-- A step on an OP-FP word (R193, R281). -/
theorem step_opFp {s : State} {w : BitVec 32} (h : Runs32 s w) (hop : w.extractLsb' 0 7 = 0b1010011#7) :
    step s = execOpFp w s := by
  obtain ⟨ht, hp, hf⟩ := h
  rw [step_unprefixedFloat ht hp hf (decode_floatBase (by simp [hop])), execUnprefixedFloat,
    extract_mid_of_opcode hop]
  rfl

/-- The opcodes of the fused multiply-adds (R281). -/
def fusedOpcodes : List (BitVec 7) := [0b1000011#7, 0b1000111#7, 0b1001011#7, 0b1001111#7]

/-- A step on a word of a fused multiply-add (R193, R281). -/
theorem step_fusedMul {s : State} {w : BitVec 32} (h : Runs32 s w) (hop : w.extractLsb' 0 7 ∈ fusedOpcodes) :
    step s = execFusedMul w s := by
  obtain ⟨ht, hp, hf⟩ := h
  simp only [fusedOpcodes, List.mem_cons, List.not_mem_nil, or_false] at hop
  obtain hop | hop | hop | hop := hop <;>
  · rw [step_unprefixedFloat ht hp hf (decode_floatBase (by simp [hop])), execUnprefixedFloat,
      extract_mid_of_opcode hop]
    rfl

/-- A fused multiply-add in its three forms, from the meanings of the prefixed ones (R289). -/
theorem fusedElements_of_meaning {op : BitVec 7} (hop : op ∈ fusedOpcodes) {mk48 : FR4Ops 6 → Instr}
    {mk64 : FR4Ops 7 → VLtyp → Instr} (h48 : ∀ o s, exec (mk48 o) s = prefixedFR448 (mk48 o) op o s)
    (h64 : ∀ o v s, exec (mk64 o v) s = prefixedFR464 (mk64 o v) op o v s) : FusedElements op mk48 mk64 := by
  refine ⟨fun o s hsv => ?_, fun o s hsv => ?_, fun s w hrun hw => ?_⟩
  · rw [h48]
    exact fusedElement_runFusedMul (fm := form48 (mk48 o) o.svlen) rfl hsv _ _ _ _ _ _ _ s
  · rw [h64]
    exact fusedElement_runFusedMul (fm := form64 (mk64 o .default) o.svlen .default) rfl hsv _ _ _ _ _ _ _ s
  · rw [step_fusedMul hrun (hw ▸ hop)]
    exact fusedElement_runFusedMul (fm := form32 w) rfl rfl w _ .none _ _ _ _ s

/-- Settles O44: each of the four is the fused multiply-add of its opcode. -/
theorem fusedMultiplyAddElement : Obligations.FusedMultiplyAddElement :=
  ⟨fusedElements_of_meaning (by decide) (fun _ _ => rfl) fun _ _ _ => rfl,
    fusedElements_of_meaning (by decide) (fun _ _ => rfl) fun _ _ _ => rfl,
    fusedElements_of_meaning (by decide) (fun _ _ => rfl) fun _ _ _ => rfl,
    fusedElements_of_meaning (by decide) (fun _ _ => rfl) fun _ _ _ => rfl⟩

/-- Settles O45: each form is the element of its class under its own operands. -/
theorem floatArithElement : Obligations.FloatArithElement := by
  refine ⟨fun o s hsv => ?_, fun o vd s hsv => ?_, fun s w hrun hop => ?_⟩
  · exact opFpElement_runOpFp (fm := form48 (.p48OpFp o) o.svlen) rfl hsv _
      (fun _ => dest_eq_intElem_of_opFpShape) ..
  · exact opFpElement_runOpFp (fm := form64 (.p64OpFp o vd .default) o.svlen .default) rfl hsv _
      (fun _ => dest_eq_intElem_of_opFpShape) ..
  · rw [step_opFp hrun hop]
    exact opFpElement_runOpFp (fm := form32 w) rfl rfl w (fun _ => dest_eq_intElem_of_opFpShape) .none ..

end Sys2Proof.Machine
end

section
/-!
PROOFS. The elements of an operand (41_vector_context.md R202 to R208): where an element lies, what a read of it takes
and a write of it replaces, and the exception of an element past x127 (R205, R351).
-/

namespace Sys2Proof.Machine

/-- The four widths of an element are those of the itype codes (R102). -/
theorem exists_ew_bits {w : Nat} (h : w = 8 ∨ w = 16 ∨ w = 32 ∨ w = 64) : ∃ e : Ew, e.bits = w := by
  obtain rfl | rfl | rfl | rfl := h
  exacts [⟨.e8, rfl⟩, ⟨.e16, rfl⟩, ⟨.e32, rfl⟩, ⟨.e64, rfl⟩]

/-- An element is in the file when its register is at most x127 (R205). -/
theorem inFile_iff {n : Reg} {k w : Nat} : inFile xlen n k w = true ↔ elemReg xlen n k w ≤ 127 := by
  simp only [inFile, decide_eq_true_eq, Nat.lt_succ_iff]

/-- An element past x127 is not in the file (R205). -/
theorem inFile_eq_false {n : Reg} {k w : Nat} (h : 127 < elemReg xlen n k w) : inFile xlen n k w = false := by
  rw [Bool.eq_false_iff, Ne, inFile_iff]
  omega

/-- The bits of an element are those of its register from its lowest bit upward (R206, R207). -/
theorem getLsbD_elemRd (s : State) (n : Reg) (k : Nat) {w b : Nat} (hb : b < w) :
    (elemRd s n k w).getLsbD b =
      (s.getX (BitVec.ofNat 7 (elemReg xlen n k w))).getLsbD (elemLo xlen k w + b) := by
  rw [elemRd, BitVec.getLsbD_extractLsb', decide_eq_true hb, Bool.true_and]

/-- An element of x0 is not written (R21, R208). -/
theorem elemWr_of_elemReg_zero {n : Reg} {k w : Nat} (h : elemReg xlen n k w = 0) (s : State) (v : BitVec w) :
    elemWr s n k v = s := by
  rw [elemWr_eq, h]
  exact s.setX_zero _

/-- An element of x0 reads as zero (R21, R207). -/
theorem elemRd_of_elemReg_zero {n : Reg} {k w : Nat} (h : elemReg xlen n k w = 0) (s : State) :
    elemRd s n k w = 0#w := by
  rw [elemRd, h]
  exact BitVec.extractLsb'_zero

/-- An element of the file whose number is not 0 lies in a register other than x0. -/
theorem ofNat_ne_zero_of_elemReg {n : Reg} {k w : Nat} (h : elemReg xlen n k w ≤ 127) (h0 : elemReg xlen n k w ≠ 0) :
    BitVec.ofNat 7 (elemReg xlen n k w) ≠ 0#7 := fun he =>
  h0 (by rw [← toNat_ofNat_elemReg (inFile_iff.2 h), he]; rfl)

/-- A write of an element outside x0 replaces its bits of the register and no others (R206, R208). -/
theorem getLsbD_getX_elemWr {e : Ew} {n : Reg} {k : Nat} (h : elemReg xlen n k e.bits ≤ 127)
    (h0 : elemReg xlen n k e.bits ≠ 0) (s : State) (v : BitVec e.bits) (b : Nat) :
    ((elemWr s n k v).getX (BitVec.ofNat 7 (elemReg xlen n k e.bits))).getLsbD b =
      if elemLo xlen k e.bits ≤ b ∧ b < elemLo xlen k e.bits + e.bits then v.getLsbD (b - elemLo xlen k e.bits)
      else (s.getX (BitVec.ofNat 7 (elemReg xlen n k e.bits))).getLsbD b := by
  have hfits := elemLo_add_le e k
  have hrange : (b < 64 ∧ elemLo xlen k e.bits ≤ b ∧ b < elemLo xlen k e.bits + e.bits) ↔
      (elemLo xlen k e.bits ≤ b ∧ b < elemLo xlen k e.bits + e.bits) := by omega
  rw [elemWr_eq, State.getX_setX_self _ _ _ (ofNat_ne_zero_of_elemReg h h0), getLsbD_putBits]
  simp only [hrange]

/-- Settles O2: the register of an element, its bits there, and what a write leaves alone. -/
theorem elementReadsAndWrites : Obligations.ElementReadsAndWrites := by
  intro s n k w v hw g lo
  obtain ⟨e, rfl⟩ := exists_ew_bits hw
  exact ⟨inFile_iff, fun hg => ⟨fun b hb => getLsbD_elemRd s n k hb, getX_elemWr_other s n k v,
    fun hg0 => getLsbD_getX_elemWr hg hg0 s v, fun hg0 => elemWr_of_elemReg_zero hg0 s v⟩⟩

/-- Settles O3: elements of one operand are apart in their register, or in different registers. -/
theorem elementReadBack : Obligations.ElementReadBack := by
  intro s n k j w v hw hk hj hn
  obtain ⟨e, rfl⟩ := exists_ew_bits hw
  exact elemRd_elemWr hn hj hk s v

/-- Settles O4: the 64 codes of a P48 register field are looked at (R92). -/
theorem vectorRegisterNumbers : Obligations.VectorRegisterNumbers := by
  have h48 : ∀ r : BitVec 6, (operand48 r false).reg.toNat = r.toNat ∧
      (operand48 r true).reg.toNat = 64 * (r.toNat % 2) + 2 * (r.toNat / 2) := by decide
  exact ⟨h48, fun _ _ => rfl⟩

/-! ### Elements past x127 -/

section
variable {fm : Form} {w : Nat}

theorem elementR_past {sg : Signedness} {fn : Word → Word → Word} {rd rs1 rs2 : Operand} {i sub : Nat} {s : State}
    (h : 127 < elemReg xlen rd.reg (flatIndex rd.vec fm.svl i sub) w ∨
      127 < elemReg xlen rs1.reg (flatIndex rs1.vec fm.svl i sub) w ∨
      127 < elemReg xlen rs2.reg (flatIndex rs2.vec fm.svl i sub) w) :
    elementR fm w sg fn rd rs1 rs2 i sub s = fm.raiseIllegal := by
  obtain h | h | h := h <;> simp [elementR, inFile_eq_false h]

theorem elementI_past {sg : Signedness} {fn : Word → Word} {rd rs1 : Operand} {i j sub : Nat} {s : State}
    (h : 127 < elemReg xlen rd.reg (flatIndex rd.vec fm.svl j sub) w ∨
      127 < elemReg xlen rs1.reg (flatIndex rs1.vec fm.svl i sub) w) :
    elementI fm w sg fn rd rs1 i j sub s = fm.raiseIllegal := by
  obtain h | h := h <;> simp [elementI, inFile_eq_false h]

theorem elementU_past {value : Word} {rd : Operand} {i sub : Nat} {s : State}
    (h : 127 < elemReg xlen rd.reg (flatIndex rd.vec fm.svl i sub) w) :
    elementU fm w value rd i sub s = fm.raiseIllegal := by
  simp [elementU, inFile_eq_false h]

/-- An address register past x127 (R242). -/
theorem addressInFile_eq_false {rs1 : Operand} {m : Nat} (hv : rs1.vec = true) (h : 127 < elemReg xlen rs1.reg m 64) :
    addressInFile rs1 m = false := by
  simp [addressInFile, hv, inFile_eq_false h]

theorem elementLoad_past {mb : Nat} {sg : Signedness} {rd rs1 : Operand} {imm : Word} {memVec : Bool}
    {i j sub : Nat} {s : State}
    (h : 127 < elemReg xlen rd.reg (flatIndex rd.vec fm.svl j sub) w ∨
      (rs1.vec = true ∧ 127 < elemReg xlen rs1.reg i 64)) :
    elementLoad fm mb sg w rd rs1 imm memVec i j sub s = fm.raiseIllegal := by
  obtain h | ⟨hv, h⟩ := h
  · simp [elementLoad, inFile_eq_false h]
  · simp [elementLoad, addressInFile_eq_false hv h]

theorem elementStore_past {mb : Nat} {rs2 rs1 : Operand} {imm : Word} {memVec : Bool} {i j sub : Nat} {s : State}
    (h : 127 < elemReg xlen rs2.reg (flatIndex rs2.vec fm.svl i sub) w ∨
      (rs1.vec = true ∧ 127 < elemReg xlen rs1.reg j 64)) :
    elementStore fm mb w rs2 rs1 imm memVec i j sub s = fm.raiseIllegal := by
  obtain h | ⟨hv, h⟩ := h
  · simp [elementStore, inFile_eq_false h]
  · simp [elementStore, addressInFile_eq_false hv h]

end

/-- Settles O33: each element operation checks the ranges of its operands before anything else (R351). -/
theorem elementRangeComesFirst : Obligations.ElementRangeComesFirst := by
  intro fm w mb sg rd rs1 rs2 imm mv i j sub s fn2 fn1 value bad
  exact ⟨fun h => ⟨elementR_past (.inl h), elementU_past h⟩,
    fun h => ⟨elementR_past (.inr (.inl h)), elementI_past (.inr h)⟩,
    fun h => ⟨elementR_past (.inr (.inr h)), elementStore_past (.inl h)⟩,
    fun h => ⟨elementI_past (.inl h), elementLoad_past (.inl h)⟩,
    fun hv h => elementLoad_past (.inr ⟨hv, h⟩), fun hv h => elementStore_past (.inr ⟨hv, h⟩)⟩

end Sys2Proof.Machine
end

section
/-!
PROOFS. Loop positions (41_vector_context.md R216 to R219): what recording one changes, the position an exception
leaves, and the indices a completed instruction leaves at zero.
-/

namespace Sys2Proof.Machine

/-! ### Recording a position -/

/-- `t` is `s` with the position i, j and the sub-element recorded, of a twin-predicated loop or of a single-predicated
one, which has no j (R216, R217). -/
structure Recorded (fm : Form) (twin : Bool) (i j sub : Nat) (s t : State) : Prop where
  pc : t.pc = s.pc
  vl : t.vl = s.vl
  maxvl : t.maxvl = s.maxvl
  subvl : t.subvl = s.subvl
  svpRsvd : t.svpRsvd = s.svpRsvd
  srcoffs : t.srcoffs = if fm.ctxVL then BitVec.ofNat 6 i else s.srcoffs
  destoffs : t.destoffs = if fm.ctxVL && twin then BitVec.ofNat 6 j else s.destoffs
  dsvoffs : t.dsvoffs = if fm.ctxSV then BitVec.ofNat 2 sub else s.dsvoffs
  getX : ∀ n, t.getX n = s.getX n
  rest : SameRest s t

theorem recorded_markSingle (fm : Form) (i j sub : Nat) (s : State) :
    Recorded fm false i j sub s (fm.markSingle i sub s) := by
  cases hv : fm.ctxVL <;> cases hs : fm.ctxSV <;>
    constructor <;> simp [Form.markSingle, Form.setSub, Form.setSrc, hv, hs, SameRest]

theorem recorded_markTwin (fm : Form) (i j sub : Nat) (s : State) :
    Recorded fm true i j sub s (fm.markTwin i j sub s) := by
  cases hv : fm.ctxVL <;> cases hs : fm.ctxSV <;>
    constructor <;> simp [Form.markTwin, Form.setSub, Form.setDest, Form.setSrc, hv, hs, SameRest]

/-- An index below VLe fits its field (R200, R30). -/
theorem toNat_ofNat_of_lt_vle {fm : Form} {s : State} {i : Nat} (h : i < fm.vle s) : (BitVec.ofNat 6 i).toNat = i := by
  have hvl := s.vl.isLt
  rw [BitVec.toNat_ofNat]
  unfold Form.vle at h
  split at h <;> omega

/-- A sub-element below svl fits its field (R201, R30). -/
theorem toNat_ofNat_of_lt_svl {fm : Form} {sub : Nat} (h : sub < fm.svl) : (BitVec.ofNat 2 sub).toNat = sub := by
  have hcode := fm.svlen.code.isLt
  rw [svl_eq] at h
  rw [BitVec.toNat_ofNat]
  omega

/-- The recorded indices read back. -/
theorem Recorded.toNat_eq {fm : Form} {twin : Bool} {i j sub : Nat} {s t u : State}
    (h : Recorded fm twin i j sub s t) (hi : i < fm.vle u) (hsub : sub < fm.svl) :
    (fm.ctxVL = true → t.srcoffs.toNat = i) ∧ (fm.ctxSV = true → t.dsvoffs.toNat = sub) := by
  refine ⟨fun hv => ?_, fun hs => ?_⟩
  · rw [h.srcoffs, if_pos hv, toNat_ofNat_of_lt_vle hi]
  · rw [h.dsvoffs, if_pos hs, toNat_ofNat_of_lt_svl hsub]

/-- So does the destination index of a twin-predicated loop. -/
theorem Recorded.toNat_destoffs {fm : Form} {i j sub : Nat} {s t u : State} (h : Recorded fm true i j sub s t)
    (hj : j < fm.vle u) (hv : fm.ctxVL = true) : t.destoffs.toNat = j := by
  rw [h.destoffs, hv, Bool.and_self, if_pos rfl, toNat_ofNat_of_lt_vle hj]

/-! ### Where a loop raises (R219) -/

/-- A sub-vector that raises does so at one of its sub-elements, in the state with that position recorded. -/
theorem subLoop_error {mark : Nat → State → State} {op : ElementOp} {fuel sub : Nat} {s s' : State} {e : Stop}
    (h : subLoop mark op fuel sub s = .error (s', e)) :
    ∃ k t, sub ≤ k ∧ k < sub + fuel ∧ s' = mark k t ∧ op k s' = .error e := by
  induction fuel generalizing sub s with
  | zero => cases h
  | succ fuel ih =>
    unfold subLoop at h
    split at h
    case h_1 e' hop =>
      cases h
      exact ⟨sub, s, le_rfl, by omega, rfl, hop⟩
    case h_2 =>
      obtain ⟨k, t, hle, hlt, hk⟩ := ih h
      exact ⟨k, t, by omega, by omega, hk⟩

/-- A single-predicated loop that raises does so in the sub-vector at one of its indices. -/
theorem singleLoop_error {active : Nat → Bool} {dv : Bool} {body : Nat → Nat → State → LoopResult}
    {fuel i s0 : Nat} {s : State} {x : State × Stop} (h : singleLoop active dv body fuel i s0 s = .error x) :
    ∃ i' s0' t, i ≤ i' ∧ i' < i + fuel ∧ body i' s0' t = .error x := by
  induction fuel generalizing i s0 s with
  | zero => cases h
  | succ fuel ih =>
    have hnext {s0' : Nat} {t : State} (h : singleLoop active dv body fuel (i + 1) s0' t = .error x) :
        ∃ i' s0' t, i ≤ i' ∧ i' < i + (fuel + 1) ∧ body i' s0' t = .error x := by
      obtain ⟨i', s0', t, hle, hlt, hbody⟩ := ih h
      exact ⟨i', s0', t, by omega, by omega, hbody⟩
    unfold singleLoop at h
    split at h
    case isFalse => exact hnext h
    case isTrue =>
      split at h
      case h_1 hbody =>
        cases h
        exact ⟨i, s0, s, le_rfl, by omega, hbody⟩
      case h_2 =>
        split at h
        case isTrue => exact hnext h
        case isFalse => cases h

/-- A twin-predicated loop that raises does so in the sub-vector at a pair of indices below VLe. -/
theorem twinLoop_error {vle : Nat} {aS aD : Nat → Bool} {sv dv : Bool} {body : Nat → Nat → Nat → State → LoopResult}
    {fuel i j s0 : Nat} {s : State} {x : State × Stop}
    (h : twinLoop vle aS aD sv dv body fuel i j s0 s = .error x) :
    ∃ i' j' s0' t, i' < vle ∧ j' < vle ∧ body i' j' s0' t = .error x := by
  induction fuel generalizing i j s0 s with
  | zero => cases h
  | succ fuel ih =>
    unfold twinLoop at h
    dsimp only at h
    split at h
    case isTrue => cases h
    case isFalse hlt =>
      split at h
      case h_1 hbody =>
        cases h
        exact ⟨_, _, s0, s, by omega, by omega, hbody⟩
      case h_2 =>
        split at h
        case isTrue => exact ih h
        case isFalse => cases h

/-- Settles O31: the raising element of each loop, in the state with its position recorded. -/
theorem raiseKeepsPosition : Obligations.RaiseKeepsPosition := by
  refine ⟨fun fm pred dv op s s' e h => ?_, fun fm tpred sv dv op s s' e h => ?_⟩
  · unfold runSingle at h
    split at h
    case h_2 => cases h
    case h_1 hloop =>
      cases h
      obtain ⟨i, s0, t, hle, hlt, hbody⟩ := singleLoop_error hloop
      obtain ⟨sub, u, hsle, hslt, rfl, hop⟩ := subLoop_error hbody
      have hi : i < fm.vle s := by omega
      have hsub : sub < fm.svl := by omega
      exact ⟨i, sub, hi, hsub, hop, (recorded_markSingle fm i 0 sub u).toNat_eq hi hsub⟩
  · unfold runTwin at h
    split at h
    case h_2 => cases h
    case h_1 hloop =>
      cases h
      obtain ⟨i, j, s0, t, hi, hj, hbody⟩ := twinLoop_error hloop
      obtain ⟨sub, u, hsle, hslt, rfl, hop⟩ := subLoop_error hbody
      have hsub : sub < fm.svl := by omega
      have hrec := recorded_markTwin fm i j sub u
      obtain ⟨hsrc, hdsv⟩ := hrec.toNat_eq hi hsub
      exact ⟨i, j, sub, hi, hj, hsub, hop, fun hv => ⟨hsrc hv, hrec.toNat_destoffs hj hv⟩, hdsv⟩

/-! ### Where a loop completes (R218) -/

/-- A loop that completes has recorded position 0 last. -/
theorem IsLoop.recorded_zero {fm : Form} {kind : LoopKind} {loop : State → LoopResult} (h : IsLoop fm kind loop)
    {s t : State} (ht : loop s = .ok t) : ∃ u, Recorded fm (kind == .twin) 0 0 0 u t := by
  cases h with
  | single =>
    unfold runSingle at ht
    split at ht
    · cases ht
    · cases ht
      exact ⟨_, recorded_markSingle fm 0 0 0 _⟩
  | twin =>
    unfold runTwin at ht
    split at ht
    · cases ht
    · cases ht
      exact ⟨_, recorded_markTwin fm 0 0 0 _⟩

/-- Settles O41: an instruction that does not trap has completed its loop. -/
theorem indicesEndAtZero : Obligations.IndicesEndAtZero := by
  intro i s t hloop _ ht htrap
  obtain ⟨ok, loop, hkind, hrun⟩ := exec_runsPrefixed hloop s
  rw [hrun] at ht
  obtain rfl | ⟨s', hs', rfl⟩ | ⟨s', c, v, -, rfl⟩ := runPrefixed_next ht
  · cases htrap
  · obtain ⟨u, hrec⟩ := hkind.recorded_zero hs'
    refine ⟨fun hv => ⟨?_, fun htwin => ?_⟩, fun hs => ?_⟩
    · rw [State.srcoffs_advance, hrec.srcoffs, if_pos ((ctxVL_iff (formOf i)).2 hv)]
    · rw [State.destoffs_advance, hrec.destoffs, (ctxVL_iff (formOf i)).2 hv, htwin]
      rfl
    · rw [State.dsvoffs_advance, hrec.dsvoffs, if_pos ((ctxSV_iff (formOf i)).2 hs)]
  · cases htrap

end Sys2Proof.Machine
end

section
/-!
PROOFS. Prefixed integer instructions whose operands fit the register file complete (41_vector_context.md R205, R216 to
R218, R223): what a loop keeps of the context, what the whole instruction leaves of it, and the registers it may change.
-/

namespace Sys2Proof.Machine

/-! ### The context during a loop and after the instruction -/

/-- From `s` to `t` a loop has changed no more of the pc and SVPSTATE than the indices it records (R216, R217). -/
structure KeepsContext (fm : Form) (twin : Bool) (s t : State) : Prop where
  pc : t.pc = s.pc
  vl : t.vl = s.vl
  maxvl : t.maxvl = s.maxvl
  subvl : t.subvl = s.subvl
  svpRsvd : t.svpRsvd = s.svpRsvd
  srcoffs : fm.ctxVL = false → t.srcoffs = s.srcoffs
  destoffs : (fm.ctxVL && twin) = false → t.destoffs = s.destoffs
  dsvoffs : fm.ctxSV = false → t.dsvoffs = s.dsvoffs

theorem keepsContext_refl (fm : Form) (twin : Bool) (s : State) : KeepsContext fm twin s s :=
  ⟨rfl, rfl, rfl, rfl, rfl, fun _ => rfl, fun _ => rfl, fun _ => rfl⟩

/-- A change of neither the pc nor SVPSTATE keeps it so. -/
theorem KeepsContext.congr {fm : Form} {twin : Bool} {s t u : State} (h : KeepsContext fm twin s t)
    (hpc : u.pc = t.pc) (hsvp : u.svpstate = t.svpstate) : KeepsContext fm twin s u := by
  obtain ⟨hpc', hvl, hmax, hsub, hrsvd, hsrc, hdest, hdsv⟩ := h
  constructor <;>
    simpa only [State.vl, State.maxvl, State.subvl, State.svpRsvd, State.srcoffs, State.destoffs, State.dsvoffs,
      hpc, hsvp]

/-- Neither does a recorded position. -/
theorem KeepsContext.recorded {fm : Form} {twin : Bool} {i j sub : Nat} {s t u : State}
    (h : KeepsContext fm twin s t) (hr : Recorded fm twin i j sub t u) : KeepsContext fm twin s u where
  pc := hr.pc.trans h.pc
  vl := hr.vl.trans h.vl
  maxvl := hr.maxvl.trans h.maxvl
  subvl := hr.subvl.trans h.subvl
  svpRsvd := hr.svpRsvd.trans h.svpRsvd
  srcoffs hv := by rw [hr.srcoffs, hv, h.srcoffs hv]; rfl
  destoffs hv := by rw [hr.destoffs, hv, h.destoffs hv]; rfl
  dsvoffs hs := by rw [hr.dsvoffs, hs, h.dsvoffs hs]; rfl

/-- What a completed prefixed instruction leaves of the pc and SVPSTATE: VL, MAXVL and subvl of steps 2 and 3 of R223,
the indices it used at zero, the pc past its bytes (R26, R218). -/
structure ContextAfter (fm : Form) (twin : Bool) (s t : State) : Prop where
  pc : t.pc = s.pc + BitVec.ofNat 64 fm.ilen
  vl : t.vl = (beginPrefixed fm s).vl
  maxvl : t.maxvl = (beginPrefixed fm s).maxvl
  subvl : t.subvl = (beginPrefixed fm s).subvl
  srcoffs : t.srcoffs = if fm.ctxVL then 0#6 else s.srcoffs
  destoffs : t.destoffs = if fm.ctxVL && twin then 0#6 else s.destoffs
  dsvoffs : t.dsvoffs = if fm.ctxSV then 0#2 else s.dsvoffs
  svpRsvd : t.svpRsvd = s.svpRsvd

/-- What steps 2 and 3 of R223 leave alone. -/
theorem beginPrefixed_keeps (fm : Form) (s : State) :
    (beginPrefixed fm s).destoffs = s.destoffs ∧ (beginPrefixed fm s).svpRsvd = s.svpRsvd ∧
      SameRest s (beginPrefixed fm s) := by
  obtain ⟨-, -, hdest, -, -, hrsvd, hrest⟩ := applyVLtyp_frame fm.vltyp s
  obtain ⟨-, -, -, -, -, -, hdest', -, hrsvd', hrest'⟩ := writeSubvl_frame fm.svlen (applyVLtyp fm.vltyp s)
  exact ⟨hdest'.trans hdest, hrsvd'.trans hrsvd, hrest.trans hrest'⟩

/-- A loop that has kept its context, its indices zeroed and the pc moved on. -/
theorem KeepsContext.after {fm : Form} {twin : Bool} {s t u : State} (h : KeepsContext fm twin (beginPrefixed fm s) t)
    (hr : Recorded fm twin 0 0 0 t u) : ContextAfter fm twin s (u.advance fm.ilen) := by
  obtain ⟨-, hpc, -, hsrc, hdsv⟩ := beginPrefixed_frame fm s
  obtain ⟨hdest, hrsvd, -⟩ := beginPrefixed_keeps fm s
  refine ⟨?_, hr.vl.trans h.vl, hr.maxvl.trans h.maxvl, hr.subvl.trans h.subvl, ?_, ?_, ?_,
    hr.svpRsvd.trans (h.svpRsvd.trans hrsvd)⟩
  · rw [State.pc_advance, hr.pc, h.pc, hpc]
  · rw [State.srcoffs_advance, hr.srcoffs]
    cases hv : fm.ctxVL with
    | true => rfl
    | false => exact (h.srcoffs hv).trans hsrc
  · rw [State.destoffs_advance, hr.destoffs]
    cases hv : fm.ctxVL && twin with
    | true => rfl
    | false => exact (h.destoffs hv).trans hdest
  · rw [State.dsvoffs_advance, hr.dsvoffs]
    cases hs : fm.ctxSV with
    | true => rfl
    | false => exact (h.dsvoffs hs).trans hdsv

/-! ### Loops that write one operand -/

/-- An element operation at source index i and destination index j writes its element of `rd`, when that and the
elements of the sources lie in the register file (R205, R209). -/
def WritesElement (fm : Form) (w : Nat) (rd : Operand) (sources : List Operand) (i j sub : Nat)
    (op : State → Except Stop State) : Prop :=
  inFile xlen rd.reg (flatIndex rd.vec fm.svl j sub) w = true →
  (∀ o, o ∈ sources → inFile xlen o.reg (flatIndex o.vec fm.svl i sub) w = true) →
    ∀ s, ∃ v : BitVec w, op s = .ok (elemWr s rd.reg (flatIndex rd.vec fm.svl j sub) v)

theorem writesElement_elementR {fm : Form} {w : Nat} {sg : Signedness} {fn : Word → Word → Word}
    {rd rs1 rs2 : Operand} (i sub : Nat) :
    WritesElement fm w rd [rs1, rs2] i i sub (elementR fm w sg fn rd rs1 rs2 i sub) := by
  intro hd hsrc s
  have h1 := hsrc rs1 (by simp)
  have h2 := hsrc rs2 (by simp)
  simp [elementR, hd, h1, h2]

theorem writesElement_elementI {fm : Form} {w : Nat} {sg : Signedness} {fn : Word → Word} {rd rs1 : Operand}
    (i j sub : Nat) :
    WritesElement fm w rd [rs1] i j sub (elementI fm w sg fn rd rs1 i j sub) := by
  intro hd hsrc s
  have h1 := hsrc rs1 (by simp)
  simp [elementI, hd, h1]

theorem writesElement_elementU {fm : Form} {w : Nat} {value : Word} {rd : Operand} (i sub : Nat) :
    WritesElement fm w rd [] i i sub (elementU fm w value rd i sub) := by
  intro hd _ s
  simp [elementU, hd]

/-- What such a loop keeps: the context, the registers outside the span of `rd`, and all but registers. -/
structure KeepsOutside (fm : Form) (twin : Bool) (rd : Operand) (vle w : Nat) (s t : State) : Prop where
  context : KeepsContext fm twin s t
  getX : ∀ n, ¬inSpan rd vle fm.svl w n → t.getX n = s.getX n
  rest : SameRest s t

theorem keepsOutside_refl (fm : Form) (twin : Bool) (rd : Operand) (vle w : Nat) (s : State) :
    KeepsOutside fm twin rd vle w s s :=
  ⟨keepsContext_refl fm twin s, fun _ _ => rfl, by simp [SameRest]⟩

/-- An element write changes registers alone (R208). -/
theorem sameRest_elemWr (s : State) (n : Reg) (k : Nat) {w : Nat} (v : BitVec w) : SameRest s (elemWr s n k v) := by
  simp [elemWr_eq, SameRest]

theorem KeepsContext.elemWr {fm : Form} {twin : Bool} {s t : State} (h : KeepsContext fm twin s t) (n : Reg)
    (k : Nat) {w : Nat} (v : BitVec w) : KeepsContext fm twin s (elemWr t n k v) :=
  h.congr (State.pc_setX ..) (State.svpstate_setX ..)

section
variable {fm : Form} {twin : Bool} {rd : Operand} {vle w : Nat} {s t u : State}

theorem KeepsOutside.recorded {i j sub : Nat} (h : KeepsOutside fm twin rd vle w s t)
    (hr : Recorded fm twin i j sub t u) : KeepsOutside fm twin rd vle w s u :=
  ⟨h.context.recorded hr, fun n hn => (hr.getX n).trans (h.getX n hn), h.rest.trans hr.rest⟩

/-- An element of `rd` is written within its span. -/
theorem KeepsOutside.elemWr {j sub : Nat} (h : KeepsOutside fm twin rd vle w s t) (hj : j < vle) (hsub : sub < fm.svl)
    (hin : spanInFile rd vle fm.svl w) (v : BitVec w) :
    KeepsOutside fm twin rd vle w s (elemWr t rd.reg (flatIndex rd.vec fm.svl j sub) v) := by
  refine ⟨h.context.elemWr .., fun n hn => ?_, h.rest.trans (sameRest_elemWr ..)⟩
  rw [getX_elemWr_other _ _ _ _ _ fun heq => hn ?_, h.getX n hn]
  exact ⟨j, sub, hj, hsub, heq ▸ toNat_ofNat_elemReg (hin j sub hj hsub)⟩

end

/-- An instruction whose loop has kept all that completes as its statement says. -/
theorem completesVector_of_loop {fm : Form} {twin : Bool} {rd : Operand} {w : Nat} {sources : List Operand} {s : State}
    {loop : State → LoopResult}
    (h : spanInFile rd (fm.vle (beginPrefixed fm s)) fm.svl w →
      (∀ o, o ∈ sources → spanInFile o (fm.vle (beginPrefixed fm s)) fm.svl w) →
      ∃ t u, loop (beginPrefixed fm s) = .ok u ∧ Recorded fm twin 0 0 0 t u ∧
        KeepsOutside fm twin rd (fm.vle (beginPrefixed fm s)) w (beginPrefixed fm s) t) :
    CompletesVector s (runPrefixed fm true loop s) fm twin rd w sources := by
  intro hsup hrd hsrc
  obtain ⟨t, u, hloop, hr, hkeep⟩ := h hrd hsrc
  have hlegal : fm.legal s.platform = true := (legal_iff _ _).2 hsup
  obtain ⟨hpc, hvl, hmax, hsub, hsrcoffs, hdest, hdsv, hrsvd⟩ := hkeep.context.after hr
  obtain ⟨-, hgetX, hrest⟩ := hkeep.recorded hr
  obtain ⟨-, -, hbegin⟩ := beginPrefixed_keeps fm s
  exact ⟨u.advance fm.ilen, by simp [runPrefixed, hlegal, hloop], hpc, hvl, hmax, hsub, hsrcoffs, hdest, hdsv, hrsvd,
    hgetX, hbegin.trans hrest⟩

theorem completesVector_runSingle {fm : Form} {w : Nat} {rd : Operand} {sources : List Operand}
    {op : Nat → ElementOp} (hop : ∀ i sub, WritesElement fm w rd sources i i sub (op i sub)) (pred : Pred) (dv : Bool)
    (s : State) :
    CompletesVector s (runPrefixed fm true (runSingle fm pred dv op) s) fm false rd w sources := by
  refine completesVector_of_loop fun hrd hsrc => ?_
  obtain ⟨t, ht, hkeep⟩ := runSingle_ok
    (KeepsOutside fm false rd (fm.vle (beginPrefixed fm s)) w (beginPrefixed fm s)) fm pred dv op (beginPrefixed fm s)
    (fun i sub _ h => h.recorded (recorded_markSingle fm i 0 sub _))
    (fun i sub a hi hsub h => by
      obtain ⟨v, hv⟩ := hop i sub (hrd i sub hi hsub) (fun o ho => hsrc o ho i sub hi hsub) a
      exact ⟨_, hv, h.elemWr hi hsub hrd v⟩)
    (keepsOutside_refl ..)
  exact ⟨t, _, ht, recorded_markSingle fm 0 0 0 t, hkeep⟩

theorem completesVector_runTwin {fm : Form} {w : Nat} {rd : Operand} {sources : List Operand}
    {op : Nat → Nat → ElementOp} (hop : ∀ i j sub, WritesElement fm w rd sources i j sub (op i j sub)) (tpred : TPred)
    (sv dv : Bool) (s : State) :
    CompletesVector s (runPrefixed fm true (runTwin fm tpred sv dv op) s) fm true rd w sources := by
  refine completesVector_of_loop fun hrd hsrc => ?_
  obtain ⟨t, ht, hkeep⟩ := runTwin_ok
    (KeepsOutside fm true rd (fm.vle (beginPrefixed fm s)) w (beginPrefixed fm s)) fm tpred sv dv op
    (beginPrefixed fm s) (fun i j sub _ h => h.recorded (recorded_markTwin fm i j sub _))
    (fun i j sub a hi hj hsub h => by
      obtain ⟨v, hv⟩ := hop i j sub (hrd j sub hj hsub) (fun o ho => hsrc o ho i sub hi hsub) a
      exact ⟨_, hv, h.elemWr hj hsub hrd v⟩)
    (keepsOutside_refl ..)
  exact ⟨t, _, ht, recorded_markTwin fm 0 0 0 t, hkeep⟩

/-! ### The formats -/

theorem completesR_of_meaning {mk48 : ROps 6 → Instr} {mk64 : ROps 7 → Bool → VLtyp → Instr} {sg : Signedness}
    {fn : Word → Word → Word} (h48 : ∀ o s, exec (mk48 o) s = prefixedR48 (mk48 o) o sg fn s)
    (h64 : ∀ o vd v s, exec (mk64 o vd v) s = prefixedR64 (mk64 o vd v) o vd v sg fn s) : CompletesR mk48 mk64 := by
  refine ⟨fun o s => ?_, fun o vd v s => ?_⟩
  · rw [h48]
    exact completesVector_runSingle writesElement_elementR _ _ s
  · rw [h64]
    exact completesVector_runSingle writesElement_elementR _ _ s

theorem completesI_of_meaning {k : Nat} {mk48 : IOps 6 → BitVec k → Instr} {mk64 : IOps 7 → BitVec k → VLtyp → Instr}
    {sg : Signedness} {fn : BitVec k → Word → Word}
    (h48 : ∀ o a s, exec (mk48 o a) s = prefixedI48 (mk48 o a) o sg (fn a) s)
    (h64 : ∀ o a v s, exec (mk64 o a v) s = prefixedI64 (mk64 o a v) o v sg (fn a) s) : CompletesI mk48 mk64 := by
  refine ⟨fun o a s => ?_, fun o a v s => ?_⟩
  · rw [h48]
    exact completesVector_runTwin writesElement_elementI _ _ _ s
  · rw [h64]
    exact completesVector_runTwin writesElement_elementI _ _ _ s

theorem completesU_of_meaning {mk48 : UOps 6 → BitVec 20 → Instr} {mk64 : UOps 7 → BitVec 20 → VLtyp → Instr}
    {value : Word → BitVec 20 → Word} (h48 : ∀ o a s, exec (mk48 o a) s = prefixedU48 (mk48 o a) o (value s.pc a) s)
    (h64 : ∀ o a v s, exec (mk64 o a v) s = prefixedU64 (mk64 o a v) o v (value s.pc a) s) :
    CompletesU mk48 mk64 := by
  refine ⟨fun o a s => ?_, fun o a v s => ?_⟩
  · rw [h48]
    exact completesVector_runSingle writesElement_elementU _ _ s
  · rw [h64]
    exact completesVector_runSingle writesElement_elementU _ _ s

/-- Settles O26: each instruction is its format over its function (R261). -/
theorem prefixedRegisterCompletes : Obligations.PrefixedRegisterCompletes :=
  ⟨completesR_of_meaning (fun _ _ => rfl) fun _ _ _ _ => rfl,
    completesR_of_meaning (fun _ _ => rfl) fun _ _ _ _ => rfl,
    completesR_of_meaning (fun _ _ => rfl) fun _ _ _ _ => rfl,
    completesR_of_meaning (fun _ _ => rfl) fun _ _ _ _ => rfl,
    completesR_of_meaning (fun _ _ => rfl) fun _ _ _ _ => rfl,
    completesR_of_meaning (fun _ _ => rfl) fun _ _ _ _ => rfl,
    completesR_of_meaning (fun _ _ => rfl) fun _ _ _ _ => rfl,
    completesR_of_meaning (fun _ _ => rfl) fun _ _ _ _ => rfl,
    completesR_of_meaning (fun _ _ => rfl) fun _ _ _ _ => rfl,
    completesR_of_meaning (fun _ _ => rfl) fun _ _ _ _ => rfl,
    completesR_of_meaning (fun _ _ => rfl) fun _ _ _ _ => rfl,
    completesR_of_meaning (fun _ _ => rfl) fun _ _ _ _ => rfl,
    completesR_of_meaning (fun _ _ => rfl) fun _ _ _ _ => rfl,
    completesR_of_meaning (fun _ _ => rfl) fun _ _ _ _ => rfl,
    completesR_of_meaning (fun _ _ => rfl) fun _ _ _ _ => rfl⟩

/-- Settles O27: each instruction is its format over its function of the immediate, or over its value (R263, R266). -/
theorem prefixedImmediateCompletes : Obligations.PrefixedImmediateCompletes :=
  ⟨completesI_of_meaning (fn := fnAddi) (fun _ _ _ => rfl) fun _ _ _ _ => rfl,
    completesI_of_meaning (fn := fnSlti) (fun _ _ _ => rfl) fun _ _ _ _ => rfl,
    completesI_of_meaning (fn := fnSltiu) (fun _ _ _ => rfl) fun _ _ _ _ => rfl,
    completesI_of_meaning (fn := fnXori) (fun _ _ _ => rfl) fun _ _ _ _ => rfl,
    completesI_of_meaning (fn := fnOri) (fun _ _ _ => rfl) fun _ _ _ _ => rfl,
    completesI_of_meaning (fn := fnAndi) (fun _ _ _ => rfl) fun _ _ _ _ => rfl,
    completesI_of_meaning (fn := fnSlli) (fun _ _ _ => rfl) fun _ _ _ _ => rfl,
    completesI_of_meaning (fn := fnSrli) (fun _ _ _ => rfl) fun _ _ _ _ => rfl,
    completesI_of_meaning (fn := fnSrai) (fun _ _ _ => rfl) fun _ _ _ _ => rfl,
    completesI_of_meaning (fn := fnAddiw) (fun _ _ _ => rfl) fun _ _ _ _ => rfl,
    completesI_of_meaning (fn := fnSlliw) (fun _ _ _ => rfl) fun _ _ _ _ => rfl,
    completesI_of_meaning (fn := fnSrliw) (fun _ _ _ => rfl) fun _ _ _ _ => rfl,
    completesI_of_meaning (fn := fnSraiw) (fun _ _ _ => rfl) fun _ _ _ _ => rfl,
    completesU_of_meaning (value := fun _ => fnLui) (fun _ _ _ => rfl) fun _ _ _ _ => rfl,
    completesU_of_meaning (value := fnAuipc) (fun _ _ _ => rfl) fun _ _ _ _ => rfl⟩

end Sys2Proof.Machine
end

section
/-!
PROOFS. The pairs that a twin-predicated loop visits when every position is active (41_vector_context.md R215), and a
P64-I instruction at the end of the register file (R205, R219, 60_exceptions.md R345): the first sub-element is written,
the second raises.
-/

namespace Sys2Proof.Machine

/-- Positions paired with themselves, or with the first position of a scalar source (R215). -/
theorem pairUp_range (sv : Bool) (n : Nat) :
    pairUp sv (List.range n) (List.range n) = (List.range n).map fun j => (if sv then j else 0, j) := by
  cases sv with
  | true => exact List.zipWith_self
  | false => cases n <;> simp [pairUp, List.range_succ_eq_map]

/-- With every position active the loop visits those pairs, of a scalar destination the first alone (R215). -/
theorem twinPairs_of_active {aS aD : Nat → Bool} {n : Nat} (hS : ∀ i, i < n → aS i = true)
    (hD : ∀ i, i < n → aD i = true) (sv dv : Bool) :
    twinPairs aS aD n sv dv =
      (List.range (if dv then n else min n 1)).map fun j => (if sv then j else 0, j) := by
  have hfilter {a : Nat → Bool} (ha : ∀ i, i < n → a i = true) : (List.range n).filter a = List.range n :=
    List.filter_eq_self.2 fun i hi => ha i (List.mem_range.1 hi)
  have hpairs : twinPairs aS aD n sv dv =
      if dv then pairUp sv ((List.range n).filter aS) ((List.range n).filter aD)
      else (pairUp sv ((List.range n).filter aS) ((List.range n).filter aD)).take 1 := rfl
  rw [hpairs, hfilter hS, hfilter hD, pairUp_range]
  cases dv with
  | true => rfl
  | false => simp [← List.map_take, List.take_range, Nat.min_comm]

/-- A loop with no predicate and no VLtyp, from sub-element 0, is one sub-vector at position 0 (R200, R217). -/
theorem runTwin_none_of_default {fm : Form} (hv : fm.vltyp = .default) {s : State} (hsub : fm.firstSub s = 0)
    (sv dv : Bool) (op : Nat → Nat → ElementOp) :
    runTwin fm .none sv dv op s =
      match subLoop (fm.markTwin 0 0) (op 0 0) fm.svl 0 s with
      | .error e => .error e
      | .ok t => .ok (fm.markTwin 0 0 0 t) := by
  have hctx : fm.ctxVL = false := by simp [Form.ctxVL, hv]
  have hvle : fm.vle s = 1 := by simp [Form.vle, hctx]
  have hpairs : twinPairs (SourceActive s .none) (DestActive s .none) (fm.vle s) sv dv = [(0, 0)] := by
    rw [twinPairs_of_active (aS := SourceActive s .none) (aD := DestActive s .none) (fun _ _ => rfl) fun _ _ => rfl,
      hvle]
    simp
  rw [twinLoopPositions fm .none sv dv op s (by simp [Form.firstSrc, hctx]) (by simp [Form.firstDest, hctx]) hsub,
    hpairs]
  simp only [runElements, markedTwin]
  cases subLoop (fm.markTwin 0 0) (op 0 0) fm.svl 0 s <;> rfl

/-- A sub-vector whose second sub-element raises. -/
theorem subLoop_second_raises {mark : Nat → State → State} {op : ElementOp} {n : Nat} {s t : State} {e : Stop}
    (h0 : op 0 (mark 0 s) = .ok t) (h1 : op 1 (mark 1 t) = .error e) :
    subLoop mark op (n + 2) 0 s = .error (mark 1 t, e) := by
  simp [subLoop, h0, h1]

/-- A nonzero svlen is at least two sub-elements (R94, R201). -/
theorem two_le_svl {fm : Form} (h : fm.svlen ≠ .subvl) : ∃ n, fm.svl = n + 2 := by
  obtain ⟨word, ilen, sv, v⟩ := fm
  cases sv with
  | subvl => exact absurd rfl h
  | two => exact ⟨0, rfl⟩
  | three => exact ⟨1, rfl⟩
  | four => exact ⟨2, rfl⟩

/-- Element 0 of a 64-bit I format is its function of the whole register (R263). -/
theorem elementI_64_zero (fm : Form) (sg : Signedness) (fn : Word → Word) (rd rs1 : Operand) (s : State) :
    elementI fm 64 sg fn rd rs1 0 0 0 s = .ok (s.setX rd.reg (fn (s.getX rs1.reg))) := by
  rw [elementI_zero]
  cases sg <;> simp [withLow, extend]

/-- The state in which the second sub-element raises: the first one is written, and position 1 recorded. -/
def secondRaising (fm : Form) (v : Word) (s : State) : State :=
  fm.markTwin 0 0 1 ((fm.markTwin 0 0 0 (writeSubvl fm.svlen s)).setX 127#7 v)

/-- A 64-bit I format at x127 with a nonzero svlen raises at its second sub-element. -/
theorem runPrefixed_elementI_past {fm : Form} (hv : fm.vltyp = .default) (hs : fm.svlen ≠ .subvl) {s : State}
    (hsup : s.platform.svlenSupported = true) (hdsv : s.dsvoffs = 0#2) (sg : Signedness) (fn : Word → Word)
    (vd : Bool) (rs1 : Operand) (sv : Bool) :
    runPrefixed fm true (runTwin fm .none sv vd (elementI fm 64 sg fn ⟨127#7, vd⟩ rs1)) s =
      illegal fm.word (secondRaising fm (fn (s.getX rs1.reg)) s) := by
  obtain ⟨n, hn⟩ := two_le_svl hs
  obtain ⟨-, -, hX, -, -, -, -, hdsv', -⟩ := writeSubvl_frame fm.svlen s
  have hbegin : beginPrefixed fm s = writeSubvl fm.svlen s := by rw [beginPrefixed, hv]; rfl
  have hlegal : fm.legal s.platform = true := (legal_iff fm s.platform).2 (by simp [Supported, hv, hsup])
  have hfirst : fm.firstSub (writeSubvl fm.svlen s) = 0 := by simp [Form.firstSub, hdsv', hdsv]
  have hpast : 127 < elemReg xlen 127#7 (flatIndex vd fm.svl 0 1) 64 := by simp [elemReg, flatIndex]
  have hloop := subLoop_second_raises (n := n) (mark := fm.markTwin 0 0)
    (elementI_64_zero fm sg fn ⟨127#7, vd⟩ rs1 (fm.markTwin 0 0 0 (writeSubvl fm.svlen s)))
    (elementI_past (rd := ⟨127#7, vd⟩) (.inl hpast))
  have hval : (fm.markTwin 0 0 0 (writeSubvl fm.svlen s)).getX rs1.reg = s.getX rs1.reg :=
    ((recorded_markTwin fm 0 0 0 _).getX _).trans (hX _)
  rw [hval] at hloop
  simp only [runPrefixed, hlegal, Bool.and_true, if_true, hbegin, runTwin_none_of_default hv hfirst, hn, hloop]
  rfl

/-- What it has changed there since steps 2 and 3 of R223: x127 and the recorded sub-element (R219). -/
theorem secondRaising_frame {fm : Form} (hs : fm.svlen ≠ .subvl) (v : Word) (s : State) :
    KeepsContext fm true (writeSubvl fm.svlen s) (secondRaising fm v s) ∧ (secondRaising fm v s).dsvoffs = 1#2 ∧
      (∀ n, (secondRaising fm v s).getX n = if n = 127#7 then v else s.getX n) ∧
      SameRest s (secondRaising fm v s) := by
  obtain ⟨-, -, hX, -, -, -, -, -, -, hrest⟩ := writeSubvl_frame fm.svlen s
  have hfirst := recorded_markTwin fm 0 0 0 (writeSubvl fm.svlen s)
  have hsecond := recorded_markTwin fm 0 0 1 ((fm.markTwin 0 0 0 (writeSubvl fm.svlen s)).setX 127#7 v)
  have hkeep := ((keepsContext_refl fm true (writeSubvl fm.svlen s)).recorded hfirst).congr
    (State.pc_setX _ 127#7 v) (State.svpstate_setX _ 127#7 v)
  have hwrite : SameRest (fm.markTwin 0 0 0 (writeSubvl fm.svlen s))
      ((fm.markTwin 0 0 0 (writeSubvl fm.svlen s)).setX 127#7 v) := by simp [SameRest]
  refine ⟨hkeep.recorded hsecond, hsecond.dsvoffs.trans (if_pos ((ctxSV_iff fm).2 hs)), fun n => ?_,
    ((hrest.trans hfirst.rest).trans hwrite).trans hsecond.rest⟩
  refine (hsecond.getX n).trans ?_
  rw [State.getX_setX, hfirst.getX, hX]
  simp

/-- The instruction as its statement says, from its meaning. -/
theorem raisesPastX127_of_meaning {k : Nat} {mk : IOps 7 → BitVec k → VLtyp → Instr} {sg : Signedness}
    {fn fn' : BitVec k → Word → Word} (hfn : ∀ a, fn a = fn' a)
    (hmk : ∀ o a v s, exec (mk o a v) s = prefixedI64 (mk o a v) o v sg (fn a) s) : RaisesPastX127 mk fn' := by
  intro rs1 vd vs1 sv a s hsup hdsv hsv o
  obtain ⟨hsubvl, hpc, -, hvl, hmax, hsrc, hdest, -, hrsvd, -⟩ := writeSubvl_frame sv s
  rw [if_neg hsv] at hsubvl
  obtain ⟨hkeep, hdsv', hX, hf, hfcsr, hmem, hstored, -, hplat⟩ :=
    secondRaising_frame (fm := form64 (mk o a .default) sv .default) hsv (fn' a (s.getX rs1)) s
  have hrun := runPrefixed_elementI_past (fm := form64 (mk o a .default) sv .default) rfl hsv hsup hdsv sg (fn a) vd
    ⟨rs1, vs1⟩ vs1
  rw [hfn] at hrun
  rw [hmk, hfn]
  exact ⟨_, hrun, rfl, hkeep.pc.trans hpc, hX, hdsv', hkeep.subvl.trans hsubvl, hkeep.vl.trans hvl,
    hkeep.maxvl.trans hmax, (hkeep.srcoffs rfl).trans hsrc, (hkeep.destoffs rfl).trans hdest,
    hkeep.svpRsvd.trans hrsvd, hf, hfcsr, hmem, hstored, hplat⟩

/-- Settles O32: each instruction is P64-I over its function of the immediate (R263, R264). -/
theorem registerFileEnd : Obligations.RegisterFileEnd :=
  ⟨raisesPastX127_of_meaning (fn := fnAddi) (fun _ => rfl) fun _ _ _ _ => rfl,
    raisesPastX127_of_meaning fnSlti_eq fun _ _ _ _ => rfl,
    raisesPastX127_of_meaning fnSltiu_eq fun _ _ _ _ => rfl,
    raisesPastX127_of_meaning (fn := fnXori) (fun _ => rfl) fun _ _ _ _ => rfl,
    raisesPastX127_of_meaning (fn := fnOri) (fun _ => rfl) fun _ _ _ _ => rfl,
    raisesPastX127_of_meaning (fn := fnAndi) (fun _ => rfl) fun _ _ _ _ => rfl,
    raisesPastX127_of_meaning (fn := fnSlli) (fun _ => rfl) fun _ _ _ _ => rfl,
    raisesPastX127_of_meaning (fn := fnSrli) (fun _ => rfl) fun _ _ _ _ => rfl,
    raisesPastX127_of_meaning (fn := fnSrai) (fun _ => rfl) fun _ _ _ _ => rfl,
    raisesPastX127_of_meaning (fn := fnAddiw) (fun _ => rfl) fun _ _ _ _ => rfl,
    raisesPastX127_of_meaning (fn := fnSlliw) (fun _ => rfl) fun _ _ _ _ => rfl,
    raisesPastX127_of_meaning (fn := fnSrliw) (fun _ => rfl) fun _ _ _ _ => rfl,
    raisesPastX127_of_meaning (fn := fnSraiw) (fun _ => rfl) fun _ _ _ _ => rfl⟩

end Sys2Proof.Machine
end

section
/-!
PROOFS. A twin-predicated loop from index 0 with every position active (41_vector_context.md R215 to R218): its elements
run in the order of their flat indices, so a property of states that element k carries from k to k + 1 holds at the end.
-/

namespace Sys2Proof.Machine

/-! ### Flat indices (R202) -/

/-- The flat index of a position is below the count of elements. -/
theorem flat_lt {cnt svl i sub : Nat} (hi : i < cnt) (hsub : sub < svl) : i * svl + sub < cnt * svl := by
  have h : (i + 1) * svl ≤ cnt * svl := Nat.mul_le_mul_right svl hi
  rw [Nat.add_mul, Nat.one_mul] at h
  omega

/-- The position of a flat index. -/
theorem flat_div_mod {svl i sub : Nat} (hsub : sub < svl) :
    (i * svl + sub) / svl = i ∧ (i * svl + sub) % svl = sub := by
  refine ⟨?_, by rw [Nat.mul_add_mod', Nat.mod_eq_of_lt hsub]⟩
  rw [Nat.mul_comm, Nat.mul_add_div (by omega), Nat.div_eq_of_lt hsub, Nat.add_zero]

/-- A flat index below the count of elements is that of a position. -/
theorem flat_position {cnt svl k : Nat} (h : k < cnt * svl) :
    k / svl < cnt ∧ k % svl < svl ∧ k / svl * svl + k % svl = k := by
  have hsvl : 0 < svl := Nat.pos_of_ne_zero fun h0 => by simp [h0] at h
  exact ⟨Nat.div_lt_of_lt_mul (Nat.mul_comm cnt svl ▸ h), Nat.mod_lt k hsvl, Nat.div_add_mod' k svl⟩

/-- Some flat index, or some position. -/
theorem exists_flat_iff {cnt svl : Nat} {P : Nat → Nat → Prop} :
    (∃ k, k < cnt * svl ∧ P (k / svl) (k % svl)) ↔ ∃ i sub, i < cnt ∧ sub < svl ∧ P i sub := by
  constructor
  · rintro ⟨k, hk, hP⟩
    obtain ⟨hi, hsub, -⟩ := flat_position hk
    exact ⟨_, _, hi, hsub, hP⟩
  · rintro ⟨i, sub, hi, hsub, hP⟩
    obtain ⟨hdiv, hmod⟩ := flat_div_mod (i := i) hsub
    exact ⟨_, flat_lt hi hsub, by rwa [hdiv, hmod]⟩

/-- A vector, or a scalar at position 0, has the flat index of its position. -/
theorem flatIndex_eq {vec : Bool} {svl i sub : Nat} (h : vec = false → i = 0) :
    flatIndex vec svl i sub = i * svl + sub := by
  cases vec with
  | true => rfl
  | false => simp [flatIndex, h rfl]

/-! ### Elements in their order -/

/-- The elements of a sub-vector, one after another. -/
theorem subLoop_invariant (Inv : Nat → State → Prop) {mark : Nat → State → State} {op : ElementOp} {base fuel sub : Nat}
    {s : State}
    (hstep : ∀ k t, k < sub + fuel → Inv (base + k) t → ∃ t', op k (mark k t) = .ok t' ∧ Inv (base + k + 1) t')
    (h : Inv (base + sub) s) : ∃ t, subLoop mark op fuel sub s = .ok t ∧ Inv (base + (sub + fuel)) t := by
  induction fuel generalizing sub s with
  | zero => exact ⟨s, rfl, h⟩
  | succ fuel ih =>
    obtain ⟨t, ht, hInv⟩ := hstep sub s (by omega) h
    obtain ⟨u, hu, hInv'⟩ := ih (sub := sub + 1) (s := t) (fun k t hk => hstep k t (by omega)) hInv
    exact ⟨u, by simp only [subLoop, ht, hu], by rwa [show sub + (fuel + 1) = sub + 1 + fuel by omega]⟩

/-- Positions in a row, one after another. -/
theorem runElements_invariant (Inv : Nat → State → Prop) {element : Nat → Nat → State → LoopResult}
    {pos : Nat → Nat × Nat} {n : Nat} {s : State}
    (hstep : ∀ j t, j < n → Inv j t → ∃ t', element (pos j).1 (pos j).2 t = .ok t' ∧ Inv (j + 1) t')
    (h : Inv 0 s) : ∃ t, runElements element ((List.range n).map pos) s = .ok t ∧ Inv n t := by
  induction n with
  | zero => exact ⟨s, rfl, h⟩
  | succ n ih =>
    obtain ⟨t, ht, hInv⟩ := ih fun j t hj => hstep j t (by omega)
    obtain ⟨u, hu, hInv'⟩ := hstep n t (by omega) hInv
    refine ⟨u, ?_, hInv'⟩
    rw [List.range_succ, List.map_append, runElements_append, ht]
    simp only [Except.bind, List.map_cons, List.map_nil, runElements, hu]

/-- The first scalar position is the only one. -/
theorem eq_zero_of_lt_positions {s : State} {v : VLtyp} {i : Nat} (h : i < positions s v false) : i = 0 := by
  simp only [positions, Bool.false_eq_true, if_false] at h
  omega

section
variable {fm : Form} {tp : TPred} {s : State}

/-- Steps 2 and 3 of R223 leave the starting indices at 0, and the loop length and the predicates as VLtyp sets them. -/
theorem beginPrefixed_fromZero (h : LoopFromZero s fm.svlen fm.vltyp tp) :
    fm.legal s.platform = true ∧ fm.firstSrc (beginPrefixed fm s) = 0 ∧ fm.firstDest (beginPrefixed fm s) = 0 ∧
      fm.firstSub (beginPrefixed fm s) = 0 ∧
      (∀ i, i < fm.vle (beginPrefixed fm s) →
        SourceActive (beginPrefixed fm s) tp i = true ∧ DestActive (beginPrefixed fm s) tp i = true) ∧
      ∀ dv, (if dv then fm.vle (beginPrefixed fm s) else min (fm.vle (beginPrefixed fm s)) 1) =
        positions (applyVLtyp fm.vltyp s) fm.vltyp dv := by
  obtain ⟨hsup, hidx, hsub, hact⟩ := h
  obtain ⟨hX, -, hvl, hsrc, hdsv⟩ := beginPrefixed_frame fm s
  obtain ⟨hdest, -, -⟩ := beginPrefixed_keeps fm s
  have hvle : fm.vle (beginPrefixed fm s) =
      if fm.vltyp = .default then 1 else (applyVLtyp fm.vltyp s).vl.toNat := by
    simp only [Form.vle, ctxVL_iff, hvl, ite_not]
  refine ⟨(legal_iff ..).2 hsup, ?_, ?_, ?_, fun i hi => ?_, fun dv => ?_⟩
  · unfold Form.firstSrc
    split
    case isTrue hv => rw [hsrc, (hidx ((ctxVL_iff fm).1 hv)).1]; rfl
    case isFalse => rfl
  · unfold Form.firstDest
    split
    case isTrue hv => rw [hdest, (hidx ((ctxVL_iff fm).1 hv)).2]; rfl
    case isFalse => rfl
  · unfold Form.firstSub
    split
    case isTrue hs => rw [hdsv, hsub ((ctxSV_iff fm).1 hs)]; rfl
    case isFalse => rfl
  · have := hact i (hvle ▸ hi)
    cases tp <;> simpa only [SourceActive, DestActive, hX] using this
  · simp only [positions, hvle]

/-- A property that each element carries on holds when the instruction's loop has run all of them, before the indices
are zeroed and the pc is moved on. -/
theorem runPrefixed_fromZero (h : LoopFromZero s fm.svlen fm.vltyp tp) {sv dv : Bool} {op : Nat → Nat → ElementOp}
    (Inv : Nat → State → Prop)
    (hstep : ∀ j sub t u, j < positions (applyVLtyp fm.vltyp s) fm.vltyp dv → sub < fm.svl → Inv (j * fm.svl + sub) t →
      Recorded fm true (if sv then j else 0) j sub t u →
      ∃ t', op (if sv then j else 0) j sub u = .ok t' ∧ Inv (j * fm.svl + sub + 1) t')
    (h0 : Inv 0 (beginPrefixed fm s)) :
    ∃ t u, runPrefixed fm true (runTwin fm tp sv dv op) s = .next (u.advance fm.ilen) ∧ Recorded fm true 0 0 0 t u ∧
      Inv (positions (applyVLtyp fm.vltyp s) fm.vltyp dv * fm.svl) t := by
  obtain ⟨hlegal, hsrc, hdest, hsub, hact, hcnt⟩ := beginPrefixed_fromZero h
  obtain ⟨t, ht, hInv⟩ := runElements_invariant (fun j => Inv (j * fm.svl)) (element := markedTwin fm op)
    (pos := fun j => (if sv then j else 0, j)) (n := positions (applyVLtyp fm.vltyp s) fm.vltyp dv)
    (s := beginPrefixed fm s)
    (fun j t hj hInv => by
      have hsubs := subLoop_invariant Inv (mark := fm.markTwin (if sv then j else 0) j)
        (op := op (if sv then j else 0) j) (base := j * fm.svl) (fuel := fm.svl) (sub := 0) (s := t)
        (fun sub a hsub ha => hstep j sub a _ hj (by omega) ha (recorded_markTwin ..)) hInv
      rwa [Nat.zero_add, ← Nat.succ_mul] at hsubs)
    (by rwa [Nat.zero_mul])
  have hpairs := twinPairs_of_active (fun i hi => (hact i hi).1) (fun i hi => (hact i hi).2) sv dv
  rw [hcnt] at hpairs
  refine ⟨t, _, ?_, recorded_markTwin fm 0 0 0 t, hInv⟩
  simp only [runPrefixed, hlegal, Bool.and_true, if_true, twinLoopPositions fm tp sv dv op _ hsrc hdest hsub, hpairs,
    ht]

/-- After a loop that began at index 0 SVPSTATE is as VLtyp and svlen set it (R34, R218, R303). -/
theorem ContextAfter.svpstateAfter {t : State} (h : ContextAfter fm true s t)
    (hloop : LoopFromZero s fm.svlen fm.vltyp tp) : SvpstateAfter s t fm.svlen fm.vltyp := by
  obtain ⟨-, hidx, hsub, -⟩ := hloop
  obtain ⟨-, -, -, hsubvl, -⟩ := applyVLtyp_frame fm.vltyp s
  obtain ⟨hsubvl', -, -, hvl, hmax, -⟩ := writeSubvl_frame fm.svlen (applyVLtyp fm.vltyp s)
  rw [hsubvl] at hsubvl'
  refine ⟨h.vl.trans hvl, h.maxvl.trans hmax, h.subvl.trans hsubvl', h.srcoffs.trans ?_, h.destoffs.trans ?_,
    h.dsvoffs.trans ?_, h.svpRsvd⟩
  · split
    case isTrue hv => exact (hidx ((ctxVL_iff fm).1 hv)).1.symm
    case isFalse => rfl
  · rw [Bool.and_true]
    split
    case isTrue hv => exact (hidx ((ctxVL_iff fm).1 hv)).2.symm
    case isFalse => rfl
  · split
    case isTrue hs => exact (hsub ((ctxSV_iff fm).1 hs)).symm
    case isFalse => rfl

end

/-! ### Addresses (R242) -/

/-- The register that holds the address of memory index `i`. -/
def addressReg (base : Operand) (i : Nat) : Reg := BitVec.ofNat 7 (base.reg.toNat + if base.vec then i else 0)

/-- A 64-bit element of a vector is a register of its own (R205). -/
theorem elemRd_word (s : State) (n : Reg) (k : Nat) : elemRd s n k 64 = s.getX (BitVec.ofNat 7 (n.toNat + k)) := by
  simp [elemRd, elemReg, elemLo]

/-- An address depends on its base register alone, and is the one of the statements. -/
theorem effectiveAddress_eq {s t : State} {base : Operand} {memVec : Bool} {svl i sub : Nat}
    (hX : t.getX (addressReg base i) = s.getX (addressReg base i)) (hi : memVec = false → i = 0) (imm : Word)
    (mb : Nat) :
    effectiveAddress t base imm memVec mb svl i sub = elementAddress s base imm svl mb i sub := by
  obtain ⟨n, vec⟩ := base
  cases vec with
  | true => simpa [effectiveAddress, elementAddress, elemRd_word, addressReg] using hX
  | false => simpa [effectiveAddress, elementAddress, flatIndex_eq hi, addressReg] using hX

/-- An address is computed from registers alone. -/
theorem elementAddress_congr {s t : State} (h : ∀ n, t.getX n = s.getX n) (base : Operand) (imm : Word)
    (svl mb i sub : Nat) : elementAddress t base imm svl mb i sub = elementAddress s base imm svl mb i sub := by
  simp only [elementAddress, h]

/-- A vector base whose registers end in the file (R205, R242). -/
theorem addressInFile_of_le {base : Operand} {cnt i : Nat} (h : base.vec = true → base.reg.toNat + cnt ≤ 128)
    (hi : i < cnt) : addressInFile base i = true := by
  unfold addressInFile
  cases hv : base.vec with
  | false => rfl
  | true =>
    have := h hv
    simp only [Bool.not_true, Bool.false_or, inFile_iff, elemReg, xlen]
    omega

/-- The flag of a P48 operand is the one it is made of. -/
@[simp] theorem operand48_vec (r : BitVec 6) (vec : Bool) : (operand48 r vec).vec = vec := by
  cases vec <;> rfl

end Sys2Proof.Machine
end

section
/-!
PROOFS. Prefixed loads of every addressing mode (42_p48_load_store.md R241 to R243): the elements of rd that a loop from
index 0 has loaded, one after another.
-/

namespace Sys2Proof.Machine

/-- Every element of an operand after one of them is written, also one of x0 (R21, R207, R208). -/
theorem elemRd_elemWr_inFile {e : Ew} {n : Reg} {j k : Nat} (hj : elemReg xlen n j e.bits ≤ 127)
    (hk : elemReg xlen n k e.bits ≤ 127) (s : State) (v : BitVec e.bits) :
    elemRd (elemWr s n k v) n j e.bits =
      if j = k ∧ elemReg xlen n j e.bits ≠ 0 then v else elemRd s n j e.bits := by
  by_cases h0 : elemReg xlen n j e.bits = 0
  · rw [elemRd_of_elemReg_zero h0, elemRd_of_elemReg_zero h0, if_neg fun h => h.2 h0]
  by_cases hjk : j = k
  · subst hjk
    rw [if_pos ⟨rfl, h0⟩, elemRd, elemWr_eq, State.getX_setX_self _ _ _ (ofNat_ne_zero_of_elemReg hj h0)]
    exact extract_putBits_same _ _ _ (elemLo_add_le e j)
  rw [if_neg fun h => hjk h.1]
  by_cases hreg : elemReg xlen n j e.bits = elemReg xlen n k e.bits
  · rw [elemRd, elemRd, elemWr_eq, ← hreg, State.getX_setX_self _ _ _ (ofNat_ne_zero_of_elemReg hj h0)]
    exact extract_putBits_disjoint _ _ _ _ _ (elemLo_apart hjk hreg)
  · refine elemRd_congr (getX_elemWr_other _ _ _ _ _ fun heq => hreg ?_)
    rw [← toNat_ofNat_elemReg (inFile_iff.2 hj), heq, toNat_ofNat_elemReg (inFile_iff.2 hk)]

/-- From `s` to `t` a loop has written the first `k` elements of the operand at `n` with their values, x0 apart, and
changed nothing else but the position it records. -/
structure LoadedUpTo (fm : Form) (e : Ew) (n : Reg) (val : Nat → BitVec e.bits) (s : State) (k : Nat) (t : State) :
    Prop where
  context : KeepsContext fm true s t
  rest : SameRest s t
  getX : ∀ g : Reg, (∀ j, j < k → g.toNat ≠ elemReg xlen n j e.bits) → t.getX g = s.getX g
  elem : ∀ j, elemReg xlen n j e.bits ≤ 127 →
    elemRd t n j e.bits = if j < k ∧ elemReg xlen n j e.bits ≠ 0 then val j else elemRd s n j e.bits

section
variable {fm : Form} {e : Ew} {n : Reg} {val : Nat → BitVec e.bits} {s t u : State} {k : Nat}

theorem loadedUpTo_zero : LoadedUpTo fm e n val s 0 s :=
  ⟨keepsContext_refl fm true s, by simp [SameRest], fun _ _ => rfl, by simp⟩

theorem LoadedUpTo.recorded {i j sub : Nat} (h : LoadedUpTo fm e n val s k t) (hr : Recorded fm true i j sub t u) :
    LoadedUpTo fm e n val s k u :=
  ⟨h.context.recorded hr, h.rest.trans hr.rest, fun g hg => (hr.getX g).trans (h.getX g hg),
    fun j hj => (elemRd_congr (hr.getX _)).trans (h.elem j hj)⟩

/-- The next element written. -/
theorem LoadedUpTo.succ (h : LoadedUpTo fm e n val s k t) (hk : elemReg xlen n k e.bits ≤ 127) :
    LoadedUpTo fm e n val s (k + 1) (elemWr t n k (val k)) := by
  refine ⟨h.context.elemWr .., h.rest.trans (sameRest_elemWr ..), fun g hg => ?_, fun j hj => ?_⟩
  · rw [getX_elemWr_other _ _ _ _ _ fun heq => hg k (Nat.lt_succ_self k) ?_, h.getX g fun j hj => hg j (by omega)]
    rw [heq, toNat_ofNat_elemReg (inFile_iff.2 hk)]
  · rw [elemRd_elemWr_inFile hj hk, h.elem j hj]
    by_cases hjk : j = k
    · subst hjk
      simp
    · simp only [hjk, false_and, if_false, show j < k + 1 ↔ j < k by omega]

/-- A base register that is x0 or not loaded into still holds its address. -/
theorem LoadedUpTo.getX_addressReg (h : LoadedUpTo fm e n val s k t) {base : Operand} {cnt i : Nat}
    (hbase : base.vec = true → base.reg.toNat + cnt ≤ 128) (hi : i < cnt)
    (hapart : ∀ j, j < k → base.reg.toNat + (if base.vec then i else 0) ≠ 0 →
      base.reg.toNat + (if base.vec then i else 0) ≠ elemReg xlen n j e.bits) :
    t.getX (addressReg base i) = s.getX (addressReg base i) := by
  have hlt : base.reg.toNat + (if base.vec then i else 0) < 2 ^ 7 := by
    have hreg := base.reg.isLt
    split
    case isTrue hv => have := hbase hv; omega
    case isFalse => omega
  unfold addressReg
  by_cases h0 : base.reg.toNat + (if base.vec then i else 0) = 0
  · rw [h0]
    exact (t.getX_zero).trans s.getX_zero.symm
  · refine h.getX _ fun j hj => ?_
    rw [BitVec.toNat_ofNat, Nat.mod_eq_of_lt hlt]
    exact hapart j hj h0

/-- Memory is read as it was. -/
theorem SameRest.memRead (h : SameRest s t) (a : Word) (mb : Nat) : memRead t a mb = memRead s a mb := by
  obtain ⟨-, -, hmem, -, -, hplat⟩ := h
  exact memRead_congr hplat fun b _ => hmem _

end

/-- The value that element `k` of rd receives when position i and sub-element sub read `m i sub` (R243). -/
def loadedValue (e : Ew) (mb : Nat) (sg : Signedness) (svl : Nat) (m : Nat → Nat → Quad) (k : Nat) : BitVec e.bits :=
  (loadExtend mb sg (m (k / svl) (k % svl))).setWidth e.bits

theorem loadedValue_flat {e : Ew} {mb : Nat} {sg : Signedness} {svl : Nat} {m : Nat → Nat → Quad} {i sub : Nat}
    (hsub : sub < svl) :
    loadedValue e mb sg svl m (i * svl + sub) = (loadExtend mb sg (m i sub)).setWidth e.bits := by
  obtain ⟨hdiv, hmod⟩ := flat_div_mod (i := i) hsub
  rw [loadedValue, hdiv, hmod]

/-- A load as its statement takes it, its loop starting in `s`: rd and the base in the file, no base register loaded
into, one position for a scalar rd, and every read successful. -/
structure LoadFits (e : Ew) (rd base : Operand) (imm : Word) (svl mb cnt : Nat) (m : Nat → Nat → Quad) (s : State) :
    Prop where
  rd_inFile : ∀ k, k < cnt * svl → elemReg xlen rd.reg k e.bits ≤ 127
  base_inFile : base.vec = true → base.reg.toNat + cnt ≤ 128
  base_apart : ∀ i k, i < cnt → k < cnt * svl → base.reg.toNat + (if base.vec then i else 0) ≠ 0 →
    base.reg.toNat + (if base.vec then i else 0) ≠ elemReg xlen rd.reg k e.bits
  rd_scalar : ∀ i, i < cnt → rd.vec = false → i = 0
  reads : ∀ i sub, i < cnt → sub < svl → memRead s (elementAddress s base imm svl mb i sub) mb = .ok (m i sub)

/-- One element of such a load, when those before it are loaded (R243). -/
theorem LoadFits.elementLoad_eq {fm : Form} {e : Ew} {rd base : Operand} {imm : Word} {mb cnt : Nat}
    {m : Nat → Nat → Quad} {s u : State} (h : LoadFits e rd base imm fm.svl mb cnt m s) (sg : Signedness)
    {val : Nat → BitVec e.bits} {i sub : Nat} (hi : i < cnt) (hsub : sub < fm.svl)
    (hu : LoadedUpTo fm e rd.reg val s (i * fm.svl + sub) u) :
    elementLoad fm mb sg e.bits rd base imm (rd.vec || base.vec) (if rd.vec || base.vec then i else 0) i sub u =
      .ok (elemWr u rd.reg (i * fm.svl + sub) ((loadExtend mb sg (m i sub)).setWidth e.bits)) := by
  have hk : i * fm.svl + sub < cnt * fm.svl := flat_lt hi hsub
  have hscalar : (rd.vec || base.vec) = false → i = 0 := fun hs => h.rd_scalar i hi (Bool.or_eq_false_iff.1 hs).1
  have hsrc : (if rd.vec || base.vec then i else 0) = i := by
    split
    case isTrue => rfl
    case isFalse hs => exact (hscalar (Bool.eq_false_iff.2 hs)).symm
  have hX : u.getX (addressReg base i) = s.getX (addressReg base i) :=
    hu.getX_addressReg h.base_inFile hi fun j hj => h.base_apart i j hi (by omega)
  have hread : memRead u (effectiveAddress u base imm (rd.vec || base.vec) mb fm.svl i sub) mb = .ok (m i sub) := by
    rw [effectiveAddress_eq hX hscalar, hu.rest.memRead, h.reads i sub hi hsub]
  have hflat : flatIndex rd.vec fm.svl i sub = i * fm.svl + sub := flatIndex_eq (h.rd_scalar i hi)
  simp only [elementLoad, hsrc, hflat, inFile_iff.2 (h.rd_inFile _ hk), addressInFile_of_le h.base_inFile hi,
    Bool.and_self, if_true, hread]

/-- A load as its statement says, from its run: `vd` and `vs` are the flags of rd and of the base. -/
theorem vectorLoad_runTwin {fm : Form} {tp : TPred} {mb : Nat} {sg : Signedness} {ext : Quad → Word}
    (hext : loadExtend mb sg = ext) {e : Ew} {rd base : Operand} (imm : Word) {vd vs : Bool} (hvd : rd.vec = vd)
    (hvs : base.vec = vs) (s : State) :
    VectorLoad s
      (runPrefixed fm true (runTwin fm tp (vd || vs) vd (elementLoad fm mb sg e.bits rd base imm (vd || vs))) s)
      fm.svlen fm.vltyp tp mb ext e.bits rd base imm fm.ilen := by
  subst hvd hvs hext
  unfold VectorLoad
  intro s1 svl cnt regOf m hloop hrd hbase hapart hread
  have hsvl : svl = fm.svl := (svl_eq fm).symm
  clear_value svl
  subst hsvl
  obtain ⟨hX, -⟩ := beginPrefixed_frame fm s
  obtain ⟨-, -, hbegin⟩ := beginPrefixed_keeps fm s
  have hfits : LoadFits e rd base imm fm.svl mb cnt m (beginPrefixed fm s) := by
    refine ⟨hrd, hbase, hapart, fun i hi hd => ?_, fun i sub hi hsub => ?_⟩
    · simp only [cnt, hd] at hi
      exact eq_zero_of_lt_positions hi
    · rw [elementAddress_congr hX, hbegin.memRead, hread i sub hi hsub]
  obtain ⟨t, u, hrun, hr, hdone⟩ := runPrefixed_fromZero hloop (sv := rd.vec || base.vec) (dv := rd.vec)
    (op := elementLoad fm mb sg e.bits rd base imm (rd.vec || base.vec))
    (LoadedUpTo fm e rd.reg (loadedValue e mb sg fm.svl m) (beginPrefixed fm s))
    (fun i sub t u hi hsub hInv hr => by
      have hnext := (hInv.recorded hr).succ (hrd _ (flat_lt hi hsub))
      rw [loadedValue_flat hsub] at hnext
      exact ⟨_, hfits.elementLoad_eq sg hi hsub (hInv.recorded hr), hnext⟩)
    loadedUpTo_zero
  have hafter := hdone.context.after hr
  obtain ⟨-, hrest, hgetX, helem⟩ := hdone.recorded hr
  refine ⟨_, hrun, hafter.pc, hafter.svpstateAfter hloop, hbegin.trans hrest, fun i sub hi hsub => ?_,
    fun k hk hreg => ?_, fun g hg => (hgetX g hg).trans (hX g)⟩
  · have h := helem _ (hrd _ (flat_lt hi hsub))
    rw [loadedValue_flat hsub] at h
    refine (elemRd_congr (State.getX_advance ..)).trans (h.trans ?_)
    by_cases h0 : regOf (i * fm.svl + sub) = 0
    · rw [if_neg fun h => h.2 h0, if_pos h0]
      exact elemRd_of_elemReg_zero h0 _
    · rw [if_pos ⟨flat_lt hi hsub, h0⟩, if_neg h0]
  · refine (elemRd_congr (State.getX_advance ..)).trans ((helem k hreg).trans ?_)
    rw [if_neg fun h => Nat.not_le.2 h.1 hk]
    exact elemRd_congr (hX _)

/-- A load in its two forms, from their meanings. -/
theorem vectorLoads_of_meaning {mk48 : IOps 6 → BitVec 12 → Instr} {mk64 : IOps 7 → BitVec 12 → VLtyp → Instr}
    {mb : Nat} {sg : Signedness} {ext : Quad → Word} (hext : loadExtend mb sg = ext)
    (h48 : ∀ o imm s, exec (mk48 o imm) s = prefixedLoad48 (mk48 o imm) o imm mb sg s)
    (h64 : ∀ o imm v s, exec (mk64 o imm v) s = prefixedLoad64 (mk64 o imm v) o imm v mb sg s) :
    VectorLoads mk48 mk64 mb ext := by
  refine ⟨fun o imm s => ?_, fun o imm v s => ?_⟩
  · rw [h48]
    exact vectorLoad_runTwin (fm := form48 (mk48 o imm) o.svlen) hext (imm.signExtend 64)
      (operand48_vec ..) (operand48_vec ..) s
  · rw [h64]
    exact vectorLoad_runTwin (fm := form64 (mk64 o imm v) o.svlen v) hext (imm.signExtend 64) rfl rfl s

/-- Settles O34: each of the seven is the prefixed load over the extension it makes. -/
theorem vectorLoadElements : Obligations.VectorLoadElements :=
  ⟨vectorLoads_of_meaning (sg := .signed) rfl (fun _ _ _ => rfl) fun _ _ _ _ => rfl,
    vectorLoads_of_meaning (sg := .signed) rfl (fun _ _ _ => rfl) fun _ _ _ _ => rfl,
    vectorLoads_of_meaning (sg := .signed) rfl (fun _ _ _ => rfl) fun _ _ _ _ => rfl,
    vectorLoads_of_meaning (sg := .unsigned) (funext fun _ => BitVec.setWidth_eq ..) (fun _ _ _ => rfl)
      fun _ _ _ _ => rfl,
    vectorLoads_of_meaning (sg := .unsigned) rfl (fun _ _ _ => rfl) fun _ _ _ _ => rfl,
    vectorLoads_of_meaning (sg := .unsigned) rfl (fun _ _ _ => rfl) fun _ _ _ _ => rfl,
    vectorLoads_of_meaning (sg := .unsigned) rfl (fun _ _ _ => rfl) fun _ _ _ _ => rfl⟩

end Sys2Proof.Machine
end

section
/-!
PROOFS. Prefixed stores of every addressing mode (42_p48_load_store.md R241 to R243, 20_memory.md R54, R62): the bytes
that a loop from index 0 has stored, one element after another.
-/

namespace Sys2Proof.Machine

/-- Different aligned accesses of one size do not overlap (R53, R54). -/
theorem aligned_apart {a b n : Nat} (ha : a % n = 0) (hb : b % n = 0) (h : a ≠ b) : a + n ≤ b ∨ b + n ≤ a := by
  obtain ⟨p, rfl⟩ := Nat.dvd_of_mod_eq_zero ha
  obtain ⟨q, rfl⟩ := Nat.dvd_of_mod_eq_zero hb
  obtain hlt | rfl | hlt := Nat.lt_trichotomy p q
  · exact .inl (Nat.mul_le_mul_left n hlt)
  · exact absurd rfl h
  · exact .inr (Nat.mul_le_mul_left n hlt)

/-- The low bytes of a value do not depend on the width it is extended to. -/
theorem extract_byte_setWidth {w b : Nat} (v : BitVec w) (hb : b < 8) :
    (v.setWidth 128).extractLsb' (8 * b) 8 = (v.setWidth 64).extractLsb' (8 * b) 8 := by
  apply BitVec.eq_of_getLsbD_eq
  intro i hi
  simp only [BitVec.getLsbD_extractLsb', BitVec.getLsbD_setWidth, hi, show 8 * b + i < 128 by omega,
    show 8 * b + i < 64 by omega]

/-- From `s` to `t` a loop has stored the low `mb` bytes of the first `k` values at their addresses, has marked those
bytes, and has changed nothing else but the position it records. -/
structure StoredUpTo (fm : Form) (mb : Nat) (ea : Nat → Word) (val : Nat → Quad) (s : State) (k : Nat) (t : State) :
    Prop where
  context : KeepsContext fm true s t
  getX : ∀ n, t.getX n = s.getX n
  f : t.f = s.f
  fcsr : t.fcsr = s.fcsr
  trap : t.trap = s.trap
  platform : t.platform = s.platform
  inside : ∀ j b, j < k → b < mb → Memory.read t.mem ((ea j).toNat + b) = some ((val j).extractLsb' (8 * b) 8)
  outside : ∀ a, (∀ j, j < k → a < (ea j).toNat ∨ (ea j).toNat + mb ≤ a) →
    Memory.read t.mem a = Memory.read s.mem a
  stored : ∀ a, a ∈ t.stored ↔ a ∈ s.stored ∨ ∃ j, j < k ∧ (ea j).toNat ≤ a ∧ a < (ea j).toNat + mb

section
variable {fm : Form} {mb : Nat} {ea : Nat → Word} {val : Nat → Quad} {s t u : State} {k : Nat}

theorem storedUpTo_zero : StoredUpTo fm mb ea val s 0 s :=
  ⟨keepsContext_refl fm true s, fun _ => rfl, rfl, rfl, rfl, rfl, by simp, fun _ _ => rfl, by simp⟩

theorem StoredUpTo.recorded {i j sub : Nat} (h : StoredUpTo fm mb ea val s k t) (hr : Recorded fm true i j sub t u) :
    StoredUpTo fm mb ea val s k u := by
  obtain ⟨hf, hfcsr, hmem, hstored, htrap, hplat⟩ := hr.rest
  exact ⟨h.context.recorded hr, fun n => (hr.getX n).trans (h.getX n), hf.trans h.f, hfcsr.trans h.fcsr,
    htrap.trans h.trap, hplat.trans h.platform, fun j b hj hb => (hmem _).trans (h.inside j b hj hb),
    fun a ha => (hmem a).trans (h.outside a ha), fun a => hstored ▸ h.stored a⟩

/-- The next value stored, apart from those before it. -/
theorem StoredUpTo.succ (h : StoredUpTo fm mb ea val s k t)
    (hapart : ∀ j, j < k → (ea j).toNat + mb ≤ (ea k).toNat ∨ (ea k).toNat + mb ≤ (ea j).toNat) :
    StoredUpTo fm mb ea val s (k + 1) (t.store (ea k) mb (val k)) := by
  refine ⟨h.context.congr rfl rfl, h.getX, h.f, h.fcsr, h.trap, h.platform, fun j b hj hb => ?_, fun a ha => ?_,
    fun a => ?_⟩
  · rw [State.mem_store]
    by_cases hjk : j = k
    · subst hjk
      exact read_writeLE_inside _ _ _ _ _ hb
    · have hj' : j < k := by omega
      have := hapart j hj'
      rw [read_writeLE_outside _ _ _ _ _ (by omega), h.inside j b hj' hb]
  · rw [State.mem_store, read_writeLE_outside _ _ _ _ _ (ha k (Nat.lt_succ_self k)),
      h.outside a fun j hj => ha j (by omega)]
  · rw [State.stored_store, mem_markStored, h.stored a, or_assoc, Nat.exists_lt_succ_right]

end

/-- A store as its statement takes it, its loop starting in `s`: the data and the base in the file, one position for a
scalar memory side, and every address aligned, backed and different. -/
structure StoreFits (w : Nat) (data base : Operand) (imm : Word) (svl mb cnt : Nat) (s : State) : Prop where
  data_inFile : ∀ i sub, i < cnt → sub < svl → elemReg xlen data.reg ((if data.vec then i * svl else 0) + sub) w ≤ 127
  base_inFile : base.vec = true → base.reg.toNat + cnt ≤ 128
  memory_scalar : ∀ i, i < cnt → (data.vec || base.vec) = false → i = 0
  aligned : ∀ i sub, i < cnt → sub < svl → (elementAddress s base imm svl mb i sub).toNat % mb = 0
  backed : ∀ i sub, i < cnt → sub < svl →
    backedRange s.platform (elementAddress s base imm svl mb i sub).toNat mb = true
  injective : ∀ i sub i' sub', i < cnt → sub < svl → i' < cnt → sub' < svl →
    (elementAddress s base imm svl mb i sub).toNat = (elementAddress s base imm svl mb i' sub').toNat →
      i = i' ∧ sub = sub'

/-- The address of the element with flat index `k`. -/
def storeAddress (base : Operand) (imm : Word) (svl mb : Nat) (s : State) (k : Nat) : Word :=
  elementAddress s base imm svl mb (k / svl) (k % svl)

/-- The value that the element with flat index `k` stores (R243). -/
def storeValue (w : Nat) (data : Operand) (svl : Nat) (s : State) (k : Nat) : Quad :=
  (elemRd s data.reg ((if data.vec then k / svl * svl else 0) + k % svl) w).setWidth 128

theorem storeAddress_flat {base : Operand} {imm : Word} {svl mb : Nat} {s : State} {i sub : Nat} (hsub : sub < svl) :
    storeAddress base imm svl mb s (i * svl + sub) = elementAddress s base imm svl mb i sub := by
  obtain ⟨hdiv, hmod⟩ := flat_div_mod (i := i) hsub
  rw [storeAddress, hdiv, hmod]

theorem storeValue_flat {w : Nat} {data : Operand} {svl : Nat} {s : State} {i sub : Nat} (hsub : sub < svl) :
    storeValue w data svl s (i * svl + sub) =
      (elemRd s data.reg ((if data.vec then i * svl else 0) + sub) w).setWidth 128 := by
  obtain ⟨hdiv, hmod⟩ := flat_div_mod (i := i) hsub
  rw [storeValue, hdiv, hmod]

section
variable {fm : Form} {w mb cnt : Nat} {data base : Operand} {imm : Word} {s u : State}
  (h : StoreFits w data base imm fm.svl mb cnt s)
include h

/-- The stores of such a loop are apart. -/
theorem StoreFits.apart {j k : Nat} (hk : k < cnt * fm.svl) (hj : j < k) :
    (storeAddress base imm fm.svl mb s j).toNat + mb ≤ (storeAddress base imm fm.svl mb s k).toNat ∨
      (storeAddress base imm fm.svl mb s k).toNat + mb ≤ (storeAddress base imm fm.svl mb s j).toNat := by
  obtain ⟨hi, hsub, hflat⟩ := flat_position hk
  obtain ⟨hi', hsub', hflat'⟩ := flat_position (hj.trans hk)
  refine aligned_apart (h.aligned _ _ hi' hsub') (h.aligned _ _ hi hsub) fun heq => ?_
  obtain ⟨hdiv, hmod⟩ := h.injective _ _ _ _ hi' hsub' hi hsub heq
  rw [← hflat, ← hflat', hdiv, hmod] at hj
  exact Nat.lt_irrefl _ hj

/-- One element of such a store (R243). -/
theorem StoreFits.elementStore_eq {i sub k : Nat} (hi : i < cnt) (hsub : sub < fm.svl)
    (hu : StoredUpTo fm mb (storeAddress base imm fm.svl mb s) (storeValue w data fm.svl s) s k u) :
    elementStore fm mb w data base imm (data.vec || base.vec) (if data.vec then i else 0) i sub u =
      .ok (u.store (storeAddress base imm fm.svl mb s (i * fm.svl + sub)) mb
        (storeValue w data fm.svl s (i * fm.svl + sub))) := by
  have hflat : flatIndex data.vec fm.svl (if data.vec then i else 0) sub =
      (if data.vec then i * fm.svl else 0) + sub := by
    cases data.vec <;> rfl
  have hvalue : (elemRd u data.reg ((if data.vec then i * fm.svl else 0) + sub) w).setWidth 128 =
      storeValue w data fm.svl s (i * fm.svl + sub) := by
    rw [storeValue_flat hsub, elemRd_congr (hu.getX _)]
  have haddr : effectiveAddress u base imm (data.vec || base.vec) mb fm.svl i sub =
      storeAddress base imm fm.svl mb s (i * fm.svl + sub) := by
    rw [storeAddress_flat hsub, effectiveAddress_eq (hu.getX _) (h.memory_scalar i hi)]
  have hwrite := memWrite_eq (s := u) (v := storeValue w data fm.svl s (i * fm.svl + sub)) (h.aligned i sub hi hsub)
    (hu.platform ▸ h.backed i sub hi hsub)
  rw [← storeAddress_flat hsub] at hwrite
  simp only [elementStore, hflat, inFile_iff.2 (h.data_inFile i sub hi hsub), addressInFile_of_le h.base_inFile hi,
    Bool.and_self, if_true, hvalue, haddr, hwrite]

end

/-- A store as its statement says, from its run: `vs2` and `vs1` are the flags of the data and of the base. -/
theorem vectorStore_runTwin {fm : Form} {tp : TPred} {mb w : Nat} (hmb : mb ≤ 8) {data base : Operand} (imm : Word)
    {vs2 vs1 : Bool} (hvs2 : data.vec = vs2) (hvs1 : base.vec = vs1) (s : State) :
    VectorStore s
      (runPrefixed fm true (runTwin fm tp vs2 (vs2 || vs1) (elementStore fm mb w data base imm (vs2 || vs1))) s)
      fm.svlen fm.vltyp tp mb w data base imm fm.ilen := by
  subst hvs2 hvs1
  unfold VectorStore
  intro s1 svl cnt ea elem hloop hdata hbase hmem hinj
  have hsvl : svl = fm.svl := (svl_eq fm).symm
  clear_value svl
  subst hsvl
  obtain ⟨hX, -⟩ := beginPrefixed_frame fm s
  obtain ⟨-, -, hf, hfcsr, hread, hstored, htrap, hplat⟩ := beginPrefixed_keeps fm s
  have hea (i sub : Nat) : elementAddress (beginPrefixed fm s) base imm fm.svl mb i sub =
      elementAddress s1 base imm fm.svl mb i sub := elementAddress_congr hX ..
  have hfits : StoreFits w data base imm fm.svl mb cnt (beginPrefixed fm s) := by
    refine ⟨hdata, hbase, fun i hi hs => ?_, fun i sub hi hsub => ?_, fun i sub hi hsub => ?_,
      fun i sub i' sub' hi hsub hi' hsub' heq => ?_⟩
    · simp only [cnt, hs] at hi
      exact eq_zero_of_lt_positions hi
    · rw [hea]
      exact (hmem i sub hi hsub).1
    · rw [hea, hplat, backedRange_iff]
      exact (hmem i sub hi hsub).2
    · rw [hea, hea] at heq
      exact hinj i sub i' sub' hi hsub hi' hsub' heq
  obtain ⟨t, u, hrun, hr, hdone⟩ := runPrefixed_fromZero hloop (sv := data.vec) (dv := data.vec || base.vec)
    (op := elementStore fm mb w data base imm (data.vec || base.vec))
    (StoredUpTo fm mb (storeAddress base imm fm.svl mb (beginPrefixed fm s))
      (storeValue w data fm.svl (beginPrefixed fm s)) (beginPrefixed fm s))
    (fun i sub t u hi hsub hInv hr =>
      ⟨_, hfits.elementStore_eq hi hsub (hInv.recorded hr),
        (hInv.recorded hr).succ fun j hj => hfits.apart (flat_lt hi hsub) hj⟩)
    storedUpTo_zero
  have hafter := hdone.context.after hr
  obtain ⟨-, hgetX, hf', hfcsr', htrap', hplat', hinside, houtside, hmarked⟩ := hdone.recorded hr
  refine ⟨_, hrun, hafter.pc, hafter.svpstateAfter hloop, fun i sub b hi hsub hb => ?_, fun a ha => ?_,
    fun g => (hgetX g).trans (hX g), hf'.trans hf, hfcsr'.trans hfcsr, htrap'.trans htrap, hplat'.trans hplat,
    fun a => ?_⟩
  · have h := hinside _ b (flat_lt hi hsub) hb
    rw [storeAddress_flat hsub, storeValue_flat hsub, hea, extract_byte_setWidth _ (by omega),
      elemRd_congr (hX _)] at h
    exact h
  · refine (houtside a fun k hk => ?_).trans (hread a)
    obtain ⟨hi, hsub, -⟩ := flat_position hk
    rw [storeAddress, hea]
    exact ha _ _ hi hsub
  · refine (hmarked a).trans ?_
    rw [hstored, ← exists_flat_iff (P := fun i sub => ea i sub ≤ a ∧ a < ea i sub + mb)]
    simp only [storeAddress, hea]
    rfl

/-- A store in its two forms, from their meanings. -/
theorem vectorStores_of_meaning {mk48 : SOps 6 → BitVec 12 → Instr} {mk64 : SOps 7 → BitVec 12 → VLtyp → Instr}
    {mb : Nat} (hmb : mb ≤ 8) (h48 : ∀ o imm s, exec (mk48 o imm) s = prefixedStore48 (mk48 o imm) o imm mb s)
    (h64 : ∀ o imm v s, exec (mk64 o imm v) s = prefixedStore64 (mk64 o imm v) o imm v mb s) :
    VectorStores mk48 mk64 mb := by
  refine ⟨fun o imm s => ?_, fun o imm v s => ?_⟩
  · rw [h48]
    exact vectorStore_runTwin (fm := form48 (mk48 o imm) o.svlen) hmb (imm.signExtend 64)
      (operand48_vec ..) (operand48_vec ..) s
  · rw [h64]
    exact vectorStore_runTwin (fm := form64 (mk64 o imm v) o.svlen v) hmb (imm.signExtend 64) rfl rfl s

/-- Settles O35: each of the four is the prefixed store of its size. -/
theorem vectorStoreElements : Obligations.VectorStoreElements :=
  ⟨vectorStores_of_meaning (by omega) (fun _ _ _ => rfl) fun _ _ _ _ => rfl,
    vectorStores_of_meaning (by omega) (fun _ _ _ => rfl) fun _ _ _ _ => rfl,
    vectorStores_of_meaning (by omega) (fun _ _ _ => rfl) fun _ _ _ _ => rfl,
    vectorStores_of_meaning (by omega) (fun _ _ _ => rfl) fun _ _ _ _ => rfl⟩

end Sys2Proof.Machine
end

section
/-!
PROOFS. Prefixed loads and stores with neither context (42_p48_load_store.md R241 to R257): one element, and what its
access answers decides between the result and the exception.
-/

namespace Sys2Proof.Machine

/-! ### Loads -/

/-- The first element of a load (R243). -/
theorem elementLoad_zero (fm : Form) (mb : Nat) (sg : Signedness) (w : Nat) (rd rs1 : Operand) (imm : Word)
    (memVec : Bool) (s : State) :
    elementLoad fm mb sg w rd rs1 imm memVec 0 0 0 s =
      (memRead s (s.getX rs1.reg + imm) mb).map
        (fun m => s.setX rd.reg (withLow (s.getX rd.reg) w (loadExtend mb sg m))) := by
  simp only [elementLoad, flatIndex_zero, inFile_zero, addressInFile_zero, effectiveAddress_zero, Bool.and_self,
    if_true, elemWr_zero]
  cases memRead s (s.getX rs1.reg + imm) mb <;> rfl

/-- A load with neither context. -/
theorem loadElement_runTwin {fm : Form} (hv : fm.vltyp = .default) (hs : fm.svlen = .subvl) {mb : Nat}
    {sg : Signedness} {ext : Quad → Word} (hext : loadExtend mb sg = ext) (tp : TPred) (sv dv : Bool) (w : Nat)
    (rd rs1 : Operand) (imm : Word) (memVec : Bool) (s : State) :
    LoadElement s (runPrefixed fm true (runTwin fm tp sv dv (elementLoad fm mb sg w rd rs1 imm memVec)) s)
      (bothActive s tp) rd.reg (s.getX rs1.reg + imm) mb w ext fm.ilen := by
  have hop := elementLoad_zero fm mb sg w rd rs1 imm memVec s
  refine ⟨fun hact m hm => ?_, fun hact c v hm => ?_, runTwin_inactive hv hs _ _ _⟩
  · rw [runTwin_active hv hs hact (hop.trans (congrArg _ hm)), hext]
    exact writesX_setX_advance ..
  · rw [runTwin_active_raise hv hs hact (hop.trans (congrArg _ hm))]
    exact traps_takeTrap ..

/-- A load in its two forms, from their meanings. -/
theorem loadElements_of_meaning {mk48 : IOps 6 → BitVec 12 → Instr} {mk64 : IOps 7 → BitVec 12 → VLtyp → Instr}
    {mb : Nat} {sg : Signedness} {ext : Quad → Word} (hext : loadExtend mb sg = ext)
    (h48 : ∀ o imm s, exec (mk48 o imm) s = prefixedLoad48 (mk48 o imm) o imm mb sg s)
    (h64 : ∀ o imm v s, exec (mk64 o imm v) s = prefixedLoad64 (mk64 o imm v) o imm v mb sg s) :
    LoadElements mk48 mk64 mb ext := by
  refine ⟨fun o imm s hsv => ?_, fun o imm s hsv => ?_⟩
  · rw [h48]
    exact loadElement_runTwin (fm := form48 (mk48 o imm) o.svlen) rfl hsv hext ..
  · rw [h64]
    exact loadElement_runTwin (fm := form64 (mk64 o imm .default) o.svlen .default) rfl hsv hext ..

/-- Settles O24: each of the seven is the prefixed load over the extension it makes. -/
theorem prefixedLoadElement : Obligations.PrefixedLoadElement :=
  ⟨loadElements_of_meaning (sg := .signed) rfl (fun _ _ _ => rfl) fun _ _ _ _ => rfl,
    loadElements_of_meaning (sg := .signed) rfl (fun _ _ _ => rfl) fun _ _ _ _ => rfl,
    loadElements_of_meaning (sg := .signed) rfl (fun _ _ _ => rfl) fun _ _ _ _ => rfl,
    loadElements_of_meaning (sg := .unsigned) (funext fun _ => BitVec.setWidth_eq ..) (fun _ _ _ => rfl)
      fun _ _ _ _ => rfl,
    loadElements_of_meaning (sg := .unsigned) rfl (fun _ _ _ => rfl) fun _ _ _ _ => rfl,
    loadElements_of_meaning (sg := .unsigned) rfl (fun _ _ _ => rfl) fun _ _ _ _ => rfl,
    loadElements_of_meaning (sg := .unsigned) rfl (fun _ _ _ => rfl) fun _ _ _ _ => rfl⟩

/-! ### Stores -/

/-- The first element of a store (R243). -/
theorem elementStore_zero (fm : Form) (mb w : Nat) (rs2 rs1 : Operand) (imm : Word) (memVec : Bool) (s : State) :
    elementStore fm mb w rs2 rs1 imm memVec 0 0 0 s =
      memWrite s (s.getX rs1.reg + imm) mb (((s.getX rs2.reg).setWidth w).setWidth 128) := by
  simp [elementStore, addressInFile_zero, effectiveAddress_zero, elemRd_zero]

/-- A store with neither context. -/
theorem storeElement_runTwin {fm : Form} (hv : fm.vltyp = .default) (hs : fm.svlen = .subvl) (mb : Nat) (tp : TPred)
    (sv dv : Bool) (w : Nat) (rs2 rs1 : Operand) (imm : Word) (memVec : Bool) (s : State) :
    StoreElement s (runPrefixed fm true (runTwin fm tp sv dv (elementStore fm mb w rs2 rs1 imm memVec)) s)
      (bothActive s tp) (s.getX rs2.reg) (s.getX rs1.reg + imm) mb w fm.ilen := by
  have hop := elementStore_zero fm mb w rs2 rs1 imm memVec s
  refine ⟨fun hact halign hbacked => ?_, fun hact halign => ?_, fun hact halign hhole => ?_,
    runTwin_inactive hv hs _ _ _⟩
  · rw [runTwin_active hv hs hact (hop.trans (memWrite_eq halign ((backedRange_iff ..).2 hbacked)))]
    exact stores_store_advance ..
  · rw [runTwin_active_raise hv hs hact (hop.trans (memWrite_misaligned halign))]
    exact traps_takeTrap ..
  · rw [runTwin_active_raise hv hs hact (hop.trans (memWrite_unbacked halign (backedRange_eq_false hhole)))]
    exact traps_takeTrap ..

/-- A store in its two forms, from their meanings. -/
theorem storeElements_of_meaning {mk48 : SOps 6 → BitVec 12 → Instr} {mk64 : SOps 7 → BitVec 12 → VLtyp → Instr}
    {mb : Nat} (h48 : ∀ o imm s, exec (mk48 o imm) s = prefixedStore48 (mk48 o imm) o imm mb s)
    (h64 : ∀ o imm v s, exec (mk64 o imm v) s = prefixedStore64 (mk64 o imm v) o imm v mb s) :
    StoreElements mk48 mk64 mb := by
  refine ⟨fun o imm s hsv => ?_, fun o imm s hsv => ?_⟩
  · rw [h48]
    exact storeElement_runTwin (fm := form48 (mk48 o imm) o.svlen) rfl hsv ..
  · rw [h64]
    exact storeElement_runTwin (fm := form64 (mk64 o imm .default) o.svlen .default) rfl hsv ..

/-- Settles O25: each of the four is the prefixed store of its size. -/
theorem prefixedStoreElement : Obligations.PrefixedStoreElement :=
  ⟨storeElements_of_meaning (fun _ _ _ => rfl) fun _ _ _ _ => rfl,
    storeElements_of_meaning (fun _ _ _ => rfl) fun _ _ _ _ => rfl,
    storeElements_of_meaning (fun _ _ _ => rfl) fun _ _ _ _ => rfl,
    storeElements_of_meaning (fun _ _ _ => rfl) fun _ _ _ _ => rfl⟩

end Sys2Proof.Machine
end

section
/-!
PROOFS. A store writes no register (42_p48_load_store.md R254, 40_base_scalar.md section 8): beside VLtyp, which may
write VLdest, no part of one touches the x registers, the f registers or fcsr.
-/

namespace Sys2Proof.Machine

/-- `t` has the registers of `s`: x, f and fcsr. -/
def SameRegisters (s t : State) : Prop := (∀ n, t.getX n = s.getX n) ∧ t.f = s.f ∧ t.fcsr = s.fcsr

theorem SameRegisters.trans {s t u : State} (h : SameRegisters s t) (h' : SameRegisters t u) : SameRegisters s u := by
  obtain ⟨hX, hf, hfcsr⟩ := h
  obtain ⟨hX', hf', hfcsr'⟩ := h'
  exact ⟨fun n => (hX' n).trans (hX n), hf'.trans hf, hfcsr'.trans hfcsr⟩

/-- Taking an exception writes no register (R346). -/
theorem sameRegisters_takeTrap (s : State) (c : Cause) (v : Word) : SameRegisters s (s.takeTrap c v) :=
  ⟨fun _ => rfl, rfl, rfl⟩

/-- Moving the pc on writes no register (R26). -/
theorem sameRegisters_advance (s : State) (n : Nat) : SameRegisters s (s.advance n) := ⟨fun _ => rfl, rfl, rfl⟩

/-- `MemWrite` writes no register (R54). -/
theorem sameRegisters_memWrite {s t : State} {a : Word} {n : Nat} {v : Quad} (h : memWrite s a n v = .ok t) :
    SameRegisters s t := by
  obtain ⟨-, -, rfl⟩ := memWrite_ok h
  exact ⟨fun _ => rfl, rfl, rfl⟩

/-- Recording a position writes no register (R217). -/
theorem sameRegisters_markTwin (fm : Form) (i j sub : Nat) (s : State) :
    SameRegisters s (fm.markTwin i j sub s) := by
  have h := recorded_markTwin fm i j sub s
  obtain ⟨hf, hfcsr, -⟩ := h.rest
  exact ⟨h.getX, hf, hfcsr⟩

/-- Copying svlen after VLtyp writes no register (R34, R223). -/
theorem sameRegisters_beginPrefixed (fm : Form) (s : State) :
    SameRegisters (applyVLtyp fm.vltyp s) (beginPrefixed fm s) := by
  obtain ⟨hX, -⟩ := beginPrefixed_frame fm s
  obtain ⟨-, -, -, -, -, -, -, -, -, hf, hfcsr, -⟩ := writeSubvl_frame fm.svlen (applyVLtyp fm.vltyp s)
  exact ⟨hX, hf, hfcsr⟩

/-- Nor does an element operation that is one `MemWrite` when its range checks pass (R351). -/
theorem sameRegisters_checkedStore {fm : Form} {ok : Bool} {s t : State} {a : Word} {n : Nat} {v : Quad}
    (h : (if ok then memWrite s a n v else fm.raiseIllegal) = .ok t) : SameRegisters s t := by
  split at h
  case isTrue => exact sameRegisters_memWrite h
  case isFalse => cases h

/-- The element of a store (R243). -/
theorem sameRegisters_elementStore {fm : Form} {mb w : Nat} {rs2 rs1 : Operand} {imm : Word} {memVec : Bool}
    {i j sub : Nat} {s t : State} (h : elementStore fm mb w rs2 rs1 imm memVec i j sub s = .ok t) :
    SameRegisters s t :=
  sameRegisters_checkedStore h

/-- The element of a floating-point store (R286). -/
theorem sameRegisters_elementStoreFp {fm : Form} {mb : Nat} {rs2 rs1 : Operand} {imm : Word} {memVec : Bool}
    {i j sub : Nat} {s t : State} (h : elementStoreFp fm mb rs2 rs1 imm memVec i j sub s = .ok t) :
    SameRegisters s t :=
  sameRegisters_checkedStore h

/-- `t` has the registers of `s`, or those that VLtyp leaves. -/
def WritesAtMostVLdest (v : VLtyp) (s t : State) : Prop := SameRegisters s t ∨ SameRegisters (applyVLtyp v s) t

/-- An unprefixed store has no VLtyp (R172 to R175). -/
theorem writesAtMostVLdest_baseStore {mb : Nat} {rs1 rs2 : BitVec 5} {imm : BitVec 12} {s t : State}
    (h : baseStore mb rs1 rs2 imm s = .next t) : WritesAtMostVLdest .default s t := by
  unfold baseStore at h
  split at h
  case h_1 e _ =>
    cases e with
    | raise c v => cases h; exact .inl (sameRegisters_takeTrap s c v)
    | stuck fault => cases h
  case h_2 s' hw =>
    cases h
    exact .inl ((sameRegisters_memWrite hw).trans (sameRegisters_advance s' 4))

/-- A prefixed instruction whose elements write no register: it is illegal before VLtyp, or it ends after it (R223). -/
theorem writesAtMostVLdest_runTwin {fm : Form} {ok : Bool} {tp : TPred} {sv dv : Bool} {op : Nat → Nat → ElementOp}
    {s t : State} (hop : ∀ {i j sub a b}, op i j sub a = .ok b → SameRegisters a b)
    (h : runPrefixed fm ok (runTwin fm tp sv dv op) s = .next t) : WritesAtMostVLdest fm.vltyp s t := by
  have hloop := runTwin_keeps (SameRegisters (applyVLtyp fm.vltyp s)) fm tp sv dv op
    (fun i j sub a ha => ha.trans (sameRegisters_markTwin fm i j sub a)) (fun _ _ _ _ _ ha hab => ha.trans (hop hab))
    (beginPrefixed fm s) (sameRegisters_beginPrefixed fm s)
  obtain rfl | ⟨s', hs', rfl⟩ | ⟨s', c, v, hs', rfl⟩ := runPrefixed_next h
  · exact .inl (sameRegisters_takeTrap ..)
  · rw [hs'] at hloop
    exact .inr (hloop.trans (sameRegisters_advance ..))
  · rw [hs'] at hloop
    exact .inr (hloop.trans (sameRegisters_takeTrap ..))

/-- A floating-point store, of a width with an access size or without (R286). -/
theorem writesAtMostVLdest_runStoreFp {fm : Form} {width : BitVec 3} {ew : Ew} {tp : TPred} {rs2 rs1 : Operand}
    {imm : BitVec 12} {s t : State} (h : runStoreFp fm width ew tp rs2 rs1 imm s = .next t) :
    WritesAtMostVLdest fm.vltyp s t := by
  unfold runStoreFp at h
  split at h
  case h_1 => cases h; exact .inl (sameRegisters_takeTrap ..)
  case h_2 => exact writesAtMostVLdest_runTwin sameRegisters_elementStoreFp h

/-- Every store. -/
theorem exec_writesAtMostVLdest {i : Instr} {s t : State} (hstores : (traitsOf i).stores = true)
    (h : exec i s = .next t) : WritesAtMostVLdest (traitsOf i).vltyp s t := by
  cases i with
  | sb | sh | sw | sd => exact writesAtMostVLdest_baseStore h
  | p48Sb | p48Sh | p48Sw | p48Sd | p64Sb | p64Sh | p64Sw | p64Sd =>
    exact writesAtMostVLdest_runTwin sameRegisters_elementStore h
  | p48StoreFp | p64StoreFp => exact writesAtMostVLdest_runStoreFp h
  | _ => cases hstores

/-- Settles O60: VLtyp, the one part of a store that writes a register, touches neither f nor fcsr. -/
theorem storesWriteNoRegister : Obligations.StoresWriteNoRegister := by
  intro i s t hstores ht
  obtain ⟨-, -, -, -, -, -, hfV, hfcsrV, -⟩ := applyVLtyp_frame (traitsOf i).vltyp s
  obtain ⟨hX, hf, hfcsr⟩ | ⟨hX, hf, hfcsr⟩ := exec_writesAtMostVLdest hstores ht
  · exact ⟨.inl hX, hf, hfcsr⟩
  · exact ⟨.inr hX, hf.trans hfV, hfcsr.trans hfcsrV⟩

end Sys2Proof.Machine
end

section
/-!
PROOFS. Without `HAS_F` every floating-point class is illegal (44_p48_float.md R280): the P48 and P64 forms of a class
share one run, and the check of that run asks for `HAS_F` before VLtyp is applied or any element is touched.
-/

namespace Sys2Proof.Machine

/-! ### The runs of the classes -/

section
variable {s : State} (hF : s.platform.hasF = false)
include hF

/-- OP-FP, whether or not its code is an instruction (R280, R285). -/
theorem traps_runOpFp_withoutF (fm : Form) (base : BitVec 32) (shape : Option FpShape) (pred : Pred)
    (rd rs1 rs2 : Operand) :
    Traps s (runOpFp fm base shape pred rd rs1 rs2 s) .illegalInstruction fm.word := by
  cases shape with
  | none => exact traps_illegal s fm.word
  | some sh =>
    rw [runOpFp, hF, Bool.false_and]
    exact traps_runPrefixed_false ..

/-- A fused multiply-add (R280, R289). -/
theorem traps_runFusedMul_withoutF (fm : Form) (base : BitVec 32) (fmt : BitVec 2) (pred : Pred)
    (rd rs1 rs2 rs3 : Operand) :
    Traps s (runFusedMul fm base fmt pred rd rs1 rs2 rs3 s) .illegalInstruction fm.word := by
  rw [runFusedMul, hF, Bool.false_and]
  exact traps_runPrefixed_false ..

/-- A load or a store is refused, whatever its size and itype (R280, R286). -/
theorem fpMemLegal_withoutF (mb : Nat) (ew : Ew) : fpMemLegal s.platform mb ew = false := by
  simp [fpMemLegal, hF]

end

/-! ### The classes -/

/-- Every prefixed floating-point instruction is a run of its class (R280). -/
theorem illegalWithoutF_of_float {i : Instr} (hfloat : (traitsOf i).float = true) : IllegalWithoutF i := by
  intro s hF
  cases i with
  | p48OpFp | p64OpFp => exact traps_runOpFp_withoutF hF ..
  | p48Madd | p48Msub | p48Nmsub | p48Nmadd | p64Madd | p64Msub | p64Nmsub | p64Nmadd =>
    exact traps_runFusedMul_withoutF hF ..
  | p48LoadFp | p64LoadFp => exact runLoadFp_illegal (fun mb _ => fpMemLegal_withoutF hF mb _) ..
  | p48StoreFp | p64StoreFp => exact runStoreFp_illegal (fun mb _ => fpMemLegal_withoutF hF mb _) ..
  | _ => cases hfloat

/-- Settles O43: the fourteen classes are the instructions with the trait `float`, and the decoder leaves a 32-bit word
with a floating-point opcode to `execUnprefixedFloat` (R193). -/
theorem floatIsIllegalWithoutF : Obligations.FloatIsIllegalWithoutF := by
  refine ⟨?p48LoadFp, ?p48StoreFp, ?p48OpFp, ?p48Madd, ?p48Msub, ?p48Nmsub, ?p48Nmadd, ?p64LoadFp, ?p64StoreFp,
    ?p64OpFp, ?p64Madd, ?p64Msub, ?p64Nmsub, ?p64Nmadd, ?unprefixed⟩
  case unprefixed =>
    intro s w hF htrap hpc hfetch hop
    rw [step_unprefixedFloat htrap hpc hfetch (decode_floatBase hop), execUnprefixedFloat_withoutF hF]
    exact traps_illegal ..
  all_goals
    intros
    exact illegalWithoutF_of_float rfl

end Sys2Proof.Machine
end

section
/-!
PROOFS. VLtyp, mode by mode (45_p64_vltyp.md R303 to R309), and that VL and MAXVL of a prefixed instruction are those
VLtyp gives, whether it completes or an element raises (41_vector_context.md R219, 60_exceptions.md R345).
-/

namespace Sys2Proof.Machine

/-! ### The values VLtyp computes -/

/-- F means F + 1 without wrapping (R302). -/
theorem toNat_vlImmediate (f : BitVec 5) : (vlImmediate f).toNat = f.toNat + 1 := by
  have hf := f.isLt
  simp only [vlImmediate, BitVec.toNat_add, BitVec.toNat_setWidth, BitVec.toNat_ofNat]
  omega

/-- `min6` is the unsigned minimum (R10). -/
theorem toNat_min6 (a b : BitVec 6) : (min6 a b).toNat = min a.toNat b.toNat := by
  simp only [min6, BitVec.ult_iff_lt, BitVec.lt_def]
  split <;> omega

/-- `minWord6` is the unsigned minimum with the whole register: what is cut to 6 bits fits them (R305). -/
theorem toNat_minWord6 (a : Word) (b : BitVec 6) : (minWord6 a b).toNat = min a.toNat b.toNat := by
  have hb := b.isLt
  have hult : a.ult (b.setWidth 64) = true ↔ a.toNat < b.toNat := by
    rw [BitVec.ult_iff_lt, BitVec.lt_def, BitVec.toNat_setWidth_of_le (by omega)]
  simp only [minWord6, hult]
  split
  case isTrue => rw [BitVec.toNat_setWidth]; omega
  case isFalse => omega

/-! ### VLdest -/

/-- Only register number 0 of five bits names x0. -/
theorem reg5_eq_zero_iff (r : BitVec 5) : reg5 r = 0#7 ↔ r = 0#5 := by
  have hr := r.isLt
  rw [← BitVec.toNat_inj, ← BitVec.toNat_inj, reg5, BitVec.toNat_setWidth_of_le (by omega)]
  rfl

/-- The new VL is in x[VLdest], unless VLdest is x0 (R309). -/
theorem getX_writeVLdest (dest : BitVec 5) (s : State) (n : Reg) :
    (writeVLdest dest s).getX n =
      if n = reg5 dest ∧ dest ≠ 0#5 then BitVec.ofNat 64 s.vl.toNat else s.getX n := by
  simp only [writeVLdest, State.getX_setX, ne_eq, reg5_eq_zero_iff, BitVec.ofNat_toNat]

/-! ### The modes -/

/-- VLtyp `v` leaves these values in VL and MAXVL, the new VL in x[dest] unless that is x0, and all else as it was. -/
def SetsVL (s : State) (dest : BitVec 5) (v : VLtyp) (vl maxvl : Nat) : Prop :=
  let t := applyVLtyp v s
  t.vl.toNat = vl ∧ t.maxvl.toNat = maxvl ∧
    (∀ n, t.getX n = if n = reg5 dest ∧ dest ≠ 0#5 then BitVec.ofNat 64 vl else s.getX n) ∧
    t.srcoffs = s.srcoffs ∧ t.destoffs = s.destoffs ∧ t.subvl = s.subvl ∧ t.dsvoffs = s.dsvoffs ∧
    t.svpRsvd = s.svpRsvd ∧ t.pc = s.pc ∧ SameRest s t

/-- A mode that writes VLdest after setting VL and MAXVL, in a state with the registers of the start, does so. -/
theorem setsVL_of_writeVLdest {s u : State} {dest : BitVec 5} {v : VLtyp} {vl maxvl : Nat}
    (hv : applyVLtyp v s = writeVLdest dest u) (hx : ∀ n, u.getX n = s.getX n) (hvl : u.vl.toNat = vl)
    (hmax : u.maxvl.toNat = maxvl) : SetsVL s dest v vl maxvl := by
  obtain ⟨hpc, hsrc, hdest, hsub, hdsv, hrsvd, hrest⟩ := applyVLtyp_frame v s
  refine ⟨?vl, ?maxvl, fun n => ?x, hsrc, hdest, hsub, hdsv, hrsvd, hpc, hrest⟩
  case vl => rw [hv, writeVLdest, State.vl_setX, hvl]
  case maxvl => rw [hv, writeVLdest, State.maxvl_setX, hmax]
  case x => rw [hv, getX_writeVLdest, hvl, hx]

/-- Settles O36: each mode sets VL and MAXVL and then writes VLdest. The hypotheses of the first two are not needed:
the model gives the terms they exclude the meaning of their fields. -/
theorem vltypModes : Obligations.VLtypModes := by
  intro dest f s _
  have himm := toNat_vlImmediate f
  refine ⟨fun _ => ?vlImm, fun _ => ?vlReg, ?mvlVl, ?mvl⟩
  case vlImm =>
    refine setsVL_of_writeVLdest rfl (fun _ => rfl) ?_ (by rw [State.maxvl_setVl])
    rw [State.vl_setVl, toNat_min6, himm]
  case vlReg =>
    refine setsVL_of_writeVLdest rfl (fun _ => rfl) ?_ (by rw [State.maxvl_setVl])
    rw [State.vl_setVl, toNat_minWord6]
  case mvlVl =>
    refine setsVL_of_writeVLdest rfl (fun _ => rfl) ?_ ?_
    · rw [State.vl_setVl, himm]
    · rw [State.maxvl_setVl, State.maxvl_setMaxvl, himm]
  case mvl =>
    refine setsVL_of_writeVLdest rfl (fun _ => rfl) ?_ ?_
    · rw [State.vl_setVl, toNat_min6, himm]
    · rw [State.maxvl_setVl, State.maxvl_setMaxvl, himm]

/-! ### VL and MAXVL after VLtyp -/

/-- `t` has VL and MAXVL of `s`. -/
def SameVL (s t : State) : Prop := t.vl = s.vl ∧ t.maxvl = s.maxvl

theorem SameVL.trans {s t u : State} (h : SameVL s t) (h' : SameVL t u) : SameVL s u :=
  ⟨h'.1.trans h.1, h'.2.trans h.2⟩

theorem sameVL_of_svpstate {s t : State} (h : t.svpstate = s.svpstate) : SameVL s t := by
  unfold SameVL State.vl State.maxvl
  rw [h]
  exact ⟨rfl, rfl⟩

theorem Recorded.sameVL {fm : Form} {twin : Bool} {i j sub : Nat} {s t : State} (h : Recorded fm twin i j sub s t) :
    SameVL s t := ⟨h.vl, h.maxvl⟩

/-- Copying svlen writes neither (R34). -/
theorem sameVL_beginPrefixed (fm : Form) (s : State) : SameVL (applyVLtyp fm.vltyp s) (beginPrefixed fm s) := by
  obtain ⟨-, -, -, hvl, hmax, -⟩ := writeSubvl_frame fm.svlen (applyVLtyp fm.vltyp s)
  exact ⟨hvl, hmax⟩

/-- An element does not write SVPSTATE: it would answer the same with any other value in its place. -/
theorem IsElement.svpstate {tr : Traits} {op : State → Except Stop State} (h : IsElement tr op) {s t : State}
    (ht : op s = .ok t) : t.svpstate = s.svpstate := by
  have hsame : op s = (op s).map (·.withSvpstate s.svpstate) := h.ignoresSvpstate s s.svpstate
  rw [ht] at hsame
  have hst : t = t.withSvpstate s.svpstate := Except.ok.inj hsame
  rw [hst, State.svpstate_withSvpstate]

/-- Wherever a loop ends, VL and MAXVL are those it began with (R216, R217, R219). -/
theorem IsElementLoop.sameVL {tr : Traits} {fm : Form} {loop : State → LoopResult} (h : IsElementLoop tr fm loop)
    (s : State) : SameVL s (loopState (loop s)) := by
  cases h with
  | single _ pred dv hop =>
    exact runSingle_keeps (SameVL s) fm pred dv _
      (fun i sub a ha => ha.trans (recorded_markSingle fm i 0 sub a).sameVL)
      (fun i sub _ _ ha hab => ha.trans (sameVL_of_svpstate ((hop i sub).svpstate hab))) s ⟨rfl, rfl⟩
  | twin _ tpred sv dv hop =>
    exact runTwin_keeps (SameVL s) fm tpred sv dv _
      (fun i j sub a ha => ha.trans (recorded_markTwin fm i j sub a).sameVL)
      (fun i j sub _ _ ha hab => ha.trans (sameVL_of_svpstate ((hop i j sub).svpstate hab))) s ⟨rfl, rfl⟩

/-- An instruction whose checks pass ends in the state its loop ended in, the pc moved on or the trap recorded: either
way with the SVPSTATE of that state (R345). -/
theorem svpstate_runPrefixed {fm : Form} {ok : Bool} {loop : State → LoopResult} {s t : State}
    (hchecks : (fm.legal s.platform && ok) = true) (h : runPrefixed fm ok loop s = .next t) :
    t.svpstate = (loopState (loop (beginPrefixed fm s))).svpstate := by
  rw [runPrefixed, if_pos hchecks] at h
  split at h
  case h_1 s' stop hs' =>
    rw [hs', loopState_error]
    cases stop with
    | raise c v => cases h; rfl
    | stuck fault => cases h
  case h_2 s' hs' =>
    cases h
    rw [hs']
    rfl

/-- Settles O37: after VLtyp neither the copy of svlen, nor the loop, nor the end of the instruction writes VL or
MAXVL. -/
theorem vltypFixesVL : Obligations.VLtypFixesVL := by
  intro i s t hloop hfloat hsup ht
  obtain ⟨ok, loop, hok, hel, hm⟩ := exec_runsElements hloop
  have hchecks : ((formOf i).legal s.platform && ok s.platform) = true := by
    rw [(legal_iff (formOf i) s.platform).2 hsup, hok hfloat, Bool.and_self]
  have hbegin := sameVL_beginPrefixed (formOf i) s
  have hrun := (hel s.pc).sameVL (beginPrefixed (formOf i) s)
  have hend := sameVL_of_svpstate (svpstate_runPrefixed hchecks ((hm s).symm.trans ht))
  exact (hbegin.trans hrun).trans hend

end Sys2Proof.Machine
end

section
/-!
PROOFS. The hart that an exception has stopped (60_exceptions.md R347; log 4).
-/

namespace Sys2Proof.Machine

/-- `step` looks at the trap record before the pc, the memory and the fetched word, so a set record alone decides its
answer. -/
theorem step_of_trap {s : State} {r : TrapRecord} (ht : s.trap = some r) : step s = .fault .stopped := by
  rw [step, ht]

/-- Settles O51, by the first case split of `step`. -/
theorem stoppedHart : Obligations.StoppedHart :=
  fun _ _ ht => step_of_trap ht

end Sys2Proof.Machine
end

section
/-!
PROOFS. A step of a running hart at a decodable word (60_exceptions.md R388), and the well-formed state after reset
(70_reset_and_hazards.md R380, R382).
-/

namespace Sys2Proof.Machine

/-- Settles O47: past the checks of the trap record and the pc, `step` is fetch, decode and `exec`. -/
theorem stepRunsDecoded : Obligations.StepRunsDecoded :=
  fun _ _ _ ht hpc hf hd => step_of_fetch_ok ht hpc hf hd

/-- Reset empties memory and clears SVPSTATE and the registers, so of the well-formed state only the pc depends on the
platform (R380, R382). -/
theorem wf_resetOn_iff (p : Platform) : (State.resetOn p).wf = true ↔ p.resetPc.getLsbD 0 = false := by
  have hmem : Memory.wf (State.resetOn p).mem = true := rfl
  have hstored : rising (State.resetOn p).stored = true := rfl
  have hrsvd : (State.resetOn p).svpRsvd = 0#4 := BitVec.extractLsb'_zero
  have hx : (State.resetOn p).x[0] = 0#64 := Vector.getElem_replicate _
  have hpc : (State.resetOn p).pc = p.resetPc := rfl
  simp only [wf_iff, hmem, hstored, hrsvd, hx, hpc, true_and]

/-- Settles O53: every platform's reset state is well formed at an even RESET_PC, and the sample platform's is even. -/
theorem resetWellFormed : Obligations.ResetWellFormed :=
  have hreset (p : Platform) (hpc : p.resetPc.getLsbD 0 = false) : (State.resetOn p).wf = true :=
    (wf_resetOn_iff p).2 hpc
  ⟨hreset Platform.sample (by decide), hreset⟩

end Sys2Proof.Machine
end
